-- ==== Sys2Proof/Word.lean ====
section
/-!
DEFINITION. The plain value types of SLINK-CORE (spec/00_scope.md R9): every value is an unsigned
integer of the width given, bit 0 is the least significant, and no operation is signed.
-/

namespace Sys2Proof

/-- A host register value: 32 bits (R38, R52). -/
abbrev Word := BitVec 32

/-- A frame byte or a decoded byte: BYTE_W = 8 bits (R7). -/
abbrev Byte := BitVec 8

/-- The command word `cw[63:0]` of R70. -/
abbrev CommandWord := BitVec 64

/-- A level of the S-Link wire (R9): `true` is high (released, idle), `false` is low (a mark). -/
abbrev Level := Bool

end Sys2Proof
end

