-- ==== Sys2Proof/Config.lean ====
section
/-!
DEFINITION. What an implementation of SLINK-CORE fixes (spec/00_scope.md R7, R8), and the values
that the spec leaves to the world outside the block (spec/93_implementation_defined.md I17).
-/

namespace Sys2Proof

/-- The synthesis-time parameters of R7, as one configuration record. Times are in ticks. -/
structure Config where
  /-- T_SYNC: length of the sync mark. -/
  tSync : Nat
  /-- T_ONE: length of the mark of a 1 bit. -/
  tOne : Nat
  /-- T_ZERO: length of the mark of a 0 bit. -/
  tZero : Nat
  /-- T_DELIM: length of the high delimiter after every mark. -/
  tDelim : Nat
  /-- T_LR_IDLE: continuous high needed before sending. -/
  tLrIdle : Nat
  /-- T_FRAME: padded frame length, from the frame anchor. -/
  tFrame : Nat
  /-- T_POLL: poll interval of the line-ready check and the padding loop. -/
  tPoll : Nat
  /-- T_LR_TIMEOUT: overall limit of the line-ready check. -/
  tLrTimeout : Nat
  /-- TOL_NUM: numerator of the tolerance factor. -/
  tolNum : Nat
  /-- TOL_DEN: denominator of the tolerance factor. -/
  tolDen : Nat
  /-- T_MEAS_CAP: cap on each wait of one pulse measurement. -/
  tMeasCap : Nat
  /-- MON_TIMEOUT_DEFAULT: the driver's default for the MONITOR timeout field (notes/assumptions/20.md). -/
  monTimeoutDefault : Nat
  /-- DIAG_RATE_DEFAULT: the driver's default for the MONITOR rate field (notes/assumptions/20.md). -/
  diagRateDefault : Nat
  /-- TICK_US: microseconds per tick. DESIGN CHOICE: whatever its value, every time of this record is a
  number of ticks, and no step reads `tickUs` (notes/assumptions/17.md). -/
  tickUs : Nat
  /-- TW: width of every elapsed counter and of the MONITOR timeout. -/
  tw : Nat
  /-- PINW: width of the pin identifier. -/
  pinw : Nat
  /-- EVCAP: capacity of the monitor event buffer, in events. -/
  evCap : Nat
  /-- HAS_MONITOR: whether the receive path exists. -/
  hasMonitor : Bool
  /-- BYTE_W: bits per transmitted or decoded value. -/
  byteW : Nat
  /-- MAX_BYTES: bytes per frame at most. -/
  maxBytes : Nat
  deriving DecidableEq, Repr

/-- The defaults of R7: "The default is the value this hardware takes." -/
def Config.hw : Config where
  tSync := 2400
  tOne := 1200
  tZero := 600
  tDelim := 600
  tLrIdle := 3000
  tFrame := 30000
  tPoll := 25
  tLrTimeout := 500000
  tolNum := 6
  tolDen := 5
  tMeasCap := 3000
  monTimeoutDefault := 10000000
  diagRateDefault := 115200
  tickUs := 1
  tw := 32
  pinw := 8
  evCap := 4096
  hasMonitor := true
  byteW := 8
  maxBytes := 4

/-- The least duration in the tolerance band around `t`: the least `d` with
`TOL_DEN·t ≤ TOL_NUM·d` (R170). -/
def Config.bandLow (c : Config) (t : Nat) : Nat := (c.tolDen * t + c.tolNum - 1) / c.tolNum

/-- The greatest duration in the tolerance band around `t`: the greatest `d` with
`TOL_DEN·d ≤ TOL_NUM·t` (R170). -/
def Config.bandHigh (c : Config) (t : Nat) : Nat := c.tolNum * t / c.tolDen

/-- No duration lies in both the band around `t` and the band around `u` (R8). -/
def Config.bandsDisjoint (c : Config) (t u : Nat) : Bool :=
  decide (min (c.bandHigh t) (c.bandHigh u) < max (c.bandLow t) (c.bandLow u))

/-- R8: the configurations a model admits. A model refuses any other configuration.
`byteW` and `maxBytes` are held to the byte and frame formats of R74 and R87, and the tolerance
ratio to a positive numerator and denominator (DEDUCED; notes/assumptions/2.md). R8 bounds TICK_US by
no more than its positivity, and a TICK_US other than 1 changes nothing here (DESIGN CHOICE;
notes/assumptions/17.md). -/
def Config.wf (c : Config) : Bool :=
  decide (0 < c.tSync) && decide (0 < c.tOne) && decide (0 < c.tZero) && decide (0 < c.tDelim) &&
  decide (0 < c.tLrIdle) && decide (0 < c.tFrame) && decide (1 ≤ c.tPoll) &&
  decide (0 < c.tLrTimeout) && decide (0 < c.tickUs) &&
  decide (0 < c.tolNum) && decide (0 < c.tolDen) &&
  decide (2 ≤ c.tMeasCap) && decide (c.tMeasCap ≤ 65536) &&
  c.bandsDisjoint c.tSync c.tOne && c.bandsDisjoint c.tSync c.tZero &&
  c.bandsDisjoint c.tOne c.tZero &&
  decide (c.bandHigh c.tSync < c.tMeasCap) && decide (c.bandHigh c.tOne < c.tMeasCap) &&
  decide (c.bandHigh c.tZero < c.tMeasCap) &&
  decide (c.tLrTimeout < 2 ^ c.tw - 1) && decide (c.tFrame < 2 ^ c.tw - 1) &&
  decide (c.monTimeoutDefault < 2 ^ c.tw - 1) &&
  decide (32 ≤ c.tw) && decide (1 ≤ c.pinw) && decide (c.pinw ≤ 8) &&
  decide (c.byteW = 8) && decide (c.maxBytes = 4)

/-- The identity string of the block (R1). No register holds it. -/
def Config.identity : String := "SLINK-CORE/v7-spec"

/-- The level the line environment puts on line `lineId` in tick `tick`, where the state of the block
wired to that line holds no chosen level. R20 and I17: the environment decides it freely in every tick;
nothing is assumed about it. R213: each line has its own (notes/assumptions/4.md). -/
opaque Config.lineDraw (lineId tick : Nat) : Level

end Sys2Proof
end

