-- ==== Sys2Proof/Syntax.lean ====
section
/-!
DEFINITION. The operations of SLINK-CORE as abstract syntax: one constructor of `Instr` per row of
spec/opcode_table.json. The rows are the four command words (spec/30_encoding.md R71 to R75) and the
sixteen register accesses (spec/10_state.md R38, spec/20_memory.md R51).
-/

namespace Sys2Proof

/-- The operations a host can start: a command word issued to the block, or one register access. -/
inductive Instr where
  /-- NOP (R72, R101). -/
  | nop
  /-- INIT (R73, R102): bind pin identifier `pin`. -/
  | init (pin : Byte)
  /-- SEND (R74, R103). `c2` and `c3` are the fields as written; they are sent only where `p2`, `p3`
  hold. -/
  | send (p2 p3 : Bool) (dev c1 c2 c3 : Byte)
  /-- MONITOR (R75, R104). -/
  | monitor (mode : BitVec 2) (mi : Bool) (timeout : Word) (rate : BitVec 24)
  /-- Write CMD_LO (R105). -/
  | wrCmdLo (v : Word)
  /-- Write CMD_HI, which issues the command word (R100). -/
  | wrCmdHi (v : Word)
  /-- Write STATUS, ignored (R114). -/
  | wrStatus (v : Word)
  /-- Write PIN, ignored (R114). -/
  | wrPin (v : Word)
  /-- Write DIAG_RATE, ignored (R114). -/
  | wrDiagRate (v : Word)
  /-- Write EVCOUNT, ignored (R114). -/
  | wrEvcount (v : Word)
  /-- Write EVDATA, ignored (R114). -/
  | wrEvdata (v : Word)
  /-- Write MON_STATE, ignored (R114). -/
  | wrMonState (v : Word)
  /-- Read CMD_LO (R106). -/
  | rdCmdLo
  /-- Read CMD_HI (R107). -/
  | rdCmdHi
  /-- Read STATUS (R108). -/
  | rdStatus
  /-- Read PIN (R109). -/
  | rdPin
  /-- Read DIAG_RATE (R110). -/
  | rdDiagRate
  /-- Read EVCOUNT (R111). -/
  | rdEvcount
  /-- Read EVDATA, which pops (R112). -/
  | rdEvdata
  /-- Read MON_STATE (R113). -/
  | rdMonState
  deriving DecidableEq, Repr

/-- The eight host registers of R38, in the order of their offsets. -/
inductive Reg where
  | cmdLo
  | cmdHi
  | status
  | pin
  | diagRate
  | evcount
  | evdata
  | monState
  deriving DecidableEq, Repr

/-- One access on the host bus (R21): the ports `haddr`, `hwrite` and `hwdata` of a tick in which
`hsel` = 1. `hwdata` means nothing in a read. -/
structure BusAccess where
  haddr : BitVec 5
  hwrite : Bool
  hwdata : Word
  deriving DecidableEq, Repr

/-- What spells an operation: a command word, or an access on the bus. -/
inductive HostWord where
  | command (cw : CommandWord)
  | access (a : BusAccess)
  deriving DecidableEq, Repr

end Sys2Proof
end

