-- ==== Sys2Proof/WellFormed.lean ====
section
/-!
DEFINITION. Which terms of `Instr` some word of the encoding spells (spec/30_encoding.md R73, R75,
R79; spec/00_scope.md R7).
-/

namespace Sys2Proof

/-- The operands the formats admit: a pin identifier of PINW bits (R73), a monitor mode of 0, 1 or 2
(R79), and MONITOR only where HAS_MONITOR holds (R71). Every other operand fills its field. -/
def Instr.wf (c : Config) : Instr → Bool
  | .nop => true
  | .init pin => decide (pin.toNat < 2 ^ c.pinw)
  | .send _ _ _ _ _ _ => true
  | .monitor mode _ _ _ => c.hasMonitor && decide (mode ≠ 3#2)
  | .wrCmdLo _ => true
  | .wrCmdHi _ => true
  | .wrStatus _ => true
  | .wrPin _ => true
  | .wrDiagRate _ => true
  | .wrEvcount _ => true
  | .wrEvdata _ => true
  | .wrMonState _ => true
  | .rdCmdLo => true
  | .rdCmdHi => true
  | .rdStatus => true
  | .rdPin => true
  | .rdDiagRate => true
  | .rdEvcount => true
  | .rdEvdata => true
  | .rdMonState => true

end Sys2Proof
end

