-- ==== Sys2Proof/Decode.lean ====
section
/-!
DEFINITION. The two host encodings (spec/30_encoding.md R70 to R79, spec/20_memory.md R51 to R55): the
fields of a command word, the decoder of command words and of bus accesses, and the encoder.
-/

namespace Sys2Proof

/-- Why a command word spells no operation (R76, R78, R79), or a byte string no command word. -/
inductive DecodeError where
  /-- OP is 0x4 to 0xF, or 0x3 with HAS_MONITOR = false (R71, R78). Safe: the word is rejected. -/
  | badOp
  /-- A reserved bit of the format is 1 (R76). Safe: the word is rejected. -/
  | rsvdBits
  /-- A MONITOR with MODE = 3 (R79). Safe: the word is rejected. -/
  | badMode
  /-- Fewer than eight bytes: the word is incomplete. Safe: nothing is decoded. -/
  | truncated
  deriving DecidableEq, Repr

/-! ### Fields of the command word (R77) -/

/-- OP = cw[3:0]. -/
def opField (cw : CommandWord) : BitVec 4 := cw.extractLsb' 0 4

/-- The PIN byte cw[15:8] of R73. Where PINW < 8 its upper bits are reserved (`reservedBitSet`). -/
def pinField (cw : CommandWord) : Byte := cw.extractLsb' 8 8

/-- P2 = cw[4]. -/
def p2Field (cw : CommandWord) : Bool := cw.getLsbD 4

/-- P3 = cw[5]. -/
def p3Field (cw : CommandWord) : Bool := cw.getLsbD 5

/-- DEV = cw[23:16]. -/
def devField (cw : CommandWord) : Byte := cw.extractLsb' 16 8

/-- C1 = cw[31:24]. -/
def c1Field (cw : CommandWord) : Byte := cw.extractLsb' 24 8

/-- C2 = cw[39:32]. -/
def c2Field (cw : CommandWord) : Byte := cw.extractLsb' 32 8

/-- C3 = cw[47:40]. -/
def c3Field (cw : CommandWord) : Byte := cw.extractLsb' 40 8

/-- MODE = cw[5:4]. -/
def modeField (cw : CommandWord) : BitVec 2 := cw.extractLsb' 4 2

/-- MI = cw[6]. -/
def miField (cw : CommandWord) : Bool := cw.getLsbD 6

/-- TIMEOUT = cw[39:8]. -/
def timeoutField (cw : CommandWord) : Word := cw.extractLsb' 8 32

/-- RATE = cw[63:40]. -/
def rateField (cw : CommandWord) : BitVec 24 := cw.extractLsb' 40 24

/-- OP names no operation (R71, R78; the test of R201): 0x4 to 0xF, or 0x3 without the monitor. -/
def opReserved (c : Config) (cw : CommandWord) : Bool :=
  decide (4 ≤ (opField cw).toNat) || (decide (opField cw = 3#4) && !c.hasMonitor)

/-- RSVD(op) ≠ 0 (R76, R77). The slice cw[15:8+PINW] of INIT is the PIN byte shifted down by PINW. -/
def reservedBitSet (c : Config) (cw : CommandWord) : Bool :=
  if opField cw = 0#4 then decide (cw.extractLsb' 4 60 ≠ 0)
  else if opField cw = 1#4 then
    decide (cw.extractLsb' 16 48 ≠ 0) || decide (pinField cw >>> c.pinw ≠ 0) ||
      decide (cw.extractLsb' 4 4 ≠ 0)
  else if opField cw = 2#4 then
    decide (cw.extractLsb' 48 16 ≠ 0) || decide (cw.extractLsb' 6 10 ≠ 0)
  else if opField cw = 3#4 then cw.getLsbD 7
  else false

/-- A MONITOR whose MODE is 3 (R79). -/
def modeIllegal (cw : CommandWord) : Bool :=
  decide (opField cw = 3#4) && decide (modeField cw = 3#2)

/-! ### The decoder -/

/-- The operation that a command word spells, or the first reason of R202's order why it spells none. -/
def decodeCommand (c : Config) (cw : CommandWord) : Except DecodeError Instr :=
  if opReserved c cw then .error .badOp
  else if reservedBitSet c cw then .error .rsvdBits
  else if modeIllegal cw then .error .badMode
  else if opField cw = 0#4 then .ok .nop
  else if opField cw = 1#4 then .ok (.init (pinField cw))
  else if opField cw = 2#4 then
    .ok (.send (p2Field cw) (p3Field cw) (devField cw) (c1Field cw) (c2Field cw) (c3Field cw))
  else .ok (.monitor (modeField cw) (miField cw) (timeoutField cw) (rateField cw))

/-- The register index `haddr[4:2]` of a register (R51). -/
def Reg.index : Reg → BitVec 3
  | .cmdLo => 0
  | .cmdHi => 1
  | .status => 2
  | .pin => 3
  | .diagRate => 4
  | .evcount => 5
  | .evdata => 6
  | .monState => 7

/-- The register that `haddr[4:2]` selects; `haddr[1:0]` is ignored (R51, R52). -/
def decodeReg (haddr : BitVec 5) : Reg :=
  match (haddr.extractLsb' 2 3).toNat with
  | 0 => .cmdLo
  | 1 => .cmdHi
  | 2 => .status
  | 3 => .pin
  | 4 => .diagRate
  | 5 => .evcount
  | 6 => .evdata
  | _ => .monState

/-- The write of a value to a register (R100, R105, R114). -/
def Reg.write (v : Word) : Reg → Instr
  | .cmdLo => .wrCmdLo v
  | .cmdHi => .wrCmdHi v
  | .status => .wrStatus v
  | .pin => .wrPin v
  | .diagRate => .wrDiagRate v
  | .evcount => .wrEvcount v
  | .evdata => .wrEvdata v
  | .monState => .wrMonState v

/-- The read of a register (R106 to R113). -/
def Reg.read : Reg → Instr
  | .cmdLo => .rdCmdLo
  | .cmdHi => .rdCmdHi
  | .status => .rdStatus
  | .pin => .rdPin
  | .diagRate => .rdDiagRate
  | .evcount => .rdEvcount
  | .evdata => .rdEvdata
  | .monState => .rdMonState

/-- The register access that a bus access is. All eight indices are mapped, so there is one for
every access (R51). -/
def decodeAccess (a : BusAccess) : Instr :=
  if a.hwrite then (decodeReg a.haddr).write a.hwdata else (decodeReg a.haddr).read

/-- The decoder: total on every host word. -/
def decode (c : Config) : HostWord → Except DecodeError Instr
  | .command cw => decodeCommand c cw
  | .access a => .ok (decodeAccess a)

/-! ### Byte order (R53, R55) -/

/-- A 32-bit register value from its four bytes, the least significant first (R53). -/
def wordOfBytes (b0 b1 b2 b3 : Byte) : Word := b3 ++ b2 ++ b1 ++ b0

/-- The command word {cmdHi, cmdLo} (R55). -/
def commandWord (cmdHi cmdLo : Word) : CommandWord := cmdHi ++ cmdLo

/-- The operation spelled by the eight bytes that CMD_LO and CMD_HI occupy on a byte-addressed
platform (R38, R53, R55), and the bytes after them. -/
def decodeBytes (c : Config) : List Byte → Except DecodeError (Instr × List Byte)
  | b0 :: b1 :: b2 :: b3 :: b4 :: b5 :: b6 :: b7 :: rest =>
    match decodeCommand c (commandWord (wordOfBytes b4 b5 b6 b7) (wordOfBytes b0 b1 b2 b3)) with
    | .ok i => .ok (i, rest)
    | .error e => .error e
  | _ => .error .truncated

/-! ### The encoder -/

/-- The NOP word (R72). -/
def encodeNop : CommandWord := 0#60 ++ 0#4

/-- The INIT word (R73). -/
def encodeInit (pin : Byte) : CommandWord := 0#48 ++ pin ++ 0#4 ++ 1#4

/-- The SEND word (R74). -/
def encodeSend (p2 p3 : Bool) (dev c1 c2 c3 : Byte) : CommandWord :=
  0#16 ++ c3 ++ c2 ++ c1 ++ dev ++ 0#8 ++ 0#2 ++ BitVec.ofBool p3 ++ BitVec.ofBool p2 ++ 2#4

/-- The MONITOR word (R75). -/
def encodeMonitor (mode : BitVec 2) (mi : Bool) (timeout : Word) (rate : BitVec 24) : CommandWord :=
  rate ++ timeout ++ 0#1 ++ BitVec.ofBool mi ++ mode ++ 3#4

/-- The byte offset of a register (R38), as a host address. -/
def Reg.offset (r : Reg) : BitVec 5 := r.index ++ 0#2

/-- The write access that stores a value in a register. -/
def writeAccess (r : Reg) (v : Word) : BusAccess where
  haddr := r.offset
  hwrite := true
  hwdata := v

/-- The read access of a register. -/
def readAccess (r : Reg) : BusAccess where
  haddr := r.offset
  hwrite := false
  hwdata := 0

/-- The encoder: the command word or the bus access that an operation is. -/
def encode : Instr → HostWord
  | .nop => .command encodeNop
  | .init pin => .command (encodeInit pin)
  | .send p2 p3 dev c1 c2 c3 => .command (encodeSend p2 p3 dev c1 c2 c3)
  | .monitor mode mi timeout rate => .command (encodeMonitor mode mi timeout rate)
  | .wrCmdLo v => .access (writeAccess .cmdLo v)
  | .wrCmdHi v => .access (writeAccess .cmdHi v)
  | .wrStatus v => .access (writeAccess .status v)
  | .wrPin v => .access (writeAccess .pin v)
  | .wrDiagRate v => .access (writeAccess .diagRate v)
  | .wrEvcount v => .access (writeAccess .evcount v)
  | .wrEvdata v => .access (writeAccess .evdata v)
  | .wrMonState v => .access (writeAccess .monState v)
  | .rdCmdLo => .access (readAccess .cmdLo)
  | .rdCmdHi => .access (readAccess .cmdHi)
  | .rdStatus => .access (readAccess .status)
  | .rdPin => .access (readAccess .pin)
  | .rdDiagRate => .access (readAccess .diagRate)
  | .rdEvcount => .access (readAccess .evcount)
  | .rdEvdata => .access (readAccess .evdata)
  | .rdMonState => .access (readAccess .monState)

/-! ### Words as spec/opcode_table.json numbers them -/

/-- A bus access from its port bits: `haddr` in bits 4:0, `hwrite` in bit 5, `hwdata` from bit 8 on.
The table names `haddr` only; the places of the other two are the model's (notes/assumptions/7.md). -/
def accessOfBits (w : Nat) : BusAccess where
  haddr := BitVec.ofNat 5 w
  hwrite := w.testBit 5
  hwdata := BitVec.ofNat 32 (w >>> 8)

/-- The host word that an opcode-table row's bits stand for. A word of more than one byte is a
command word. A word of one byte is a bus access, unless its bits 1:0, which a bus row leaves at 0,
are not both 0 and it spells a command (notes/assumptions/7.md). -/
def tableWord (nbits w : Nat) : HostWord :=
  if 8 < nbits then .command (BitVec.ofNat 64 w)
  else if w % 4 = 0 then .access (accessOfBits w)
  else
    match decodeCommand Config.hw (BitVec.ofNat 64 w) with
    | .ok _ => .command (BitVec.ofNat 64 w)
    | .error _ => .access (accessOfBits w)

/-- The instruction that the decoder reads from an opcode-table word of `nbits` bits. -/
def decodeTableWord (nbits w : Nat) : Option Instr :=
  match decode Config.hw (tableWord nbits w) with
  | .ok i => some i
  | .error _ => none

end Sys2Proof
end

