-- ==== Sys2Proof/Machine/State.lean ====
section
/-!
DEFINITION. The state of SLINK-CORE (spec/10_state.md R20 to R37, R46), the reasons a step can stop,
and the machine right after reset. State holds every field of R46's table, and five fields of the
model's own that carry the ports of the tick and name the line.
-/

namespace Sys2Proof.Machine

/-- The control state (R24). -/
inductive Phase where
  | idle
  | lr
  | syncLo
  | syncHi
  | bitLo
  | bitHi
  | pad
  | mon
  deriving DecidableEq, Repr

/-- The step of a pulse measurement, `mp` (R30): the loop head, waiting out a pulse in progress,
waiting for a pulse to start, timing the pulse. -/
inductive MeasStep where
  | top
  | waitOut
  | waitStart
  | time
  deriving DecidableEq, Repr

/-- The recorded rejection cause, `rcause` (R35, R201). Codes 6 and 7 are never recorded (R201), so
they have no constructor. -/
inductive Cause where
  | none
  | busy
  | badOp
  | rsvdBits
  | badMode
  | unbound
  deriving DecidableEq, Repr

/-- A monitor event (R87). KIND values 0, 6 and 7 are never produced, so they have no constructor. -/
inductive Event where
  | frame
  | bit (b : Bool)
  | byte (v : Byte)
  | raw (d : BitVec 16)
  | lineBreak
  deriving DecidableEq, Repr

/-- The frame bytes `fb[0..3]` (R25). -/
structure FrameBytes where
  b0 : Byte
  b1 : Byte
  b2 : Byte
  b3 : Byte
  deriving DecidableEq, Repr

/-- What the host side of the ports does in one tick (R21): `rst`, and the access where `hsel` = 1. -/
structure HostTick where
  rst : Bool
  access : Option BusAccess
  deriving DecidableEq, Repr

/-- The state S(t) at the start of a tick. The counters whose width R26 to R30 give as TW or "at least"
are Nat (notes/assumptions/8.md). -/
structure State where
  /-- R24. -/
  phase : Phase
  /-- R25: the latched frame bytes. -/
  fb : FrameBytes
  /-- R25: the number of frame bytes to send. -/
  nbytes : BitVec 3
  /-- R25: the monitor mode. -/
  mode : BitVec 2
  /-- R25: measureIdleInstead. -/
  mi : Bool
  /-- R25: the monitor timeout in ticks, TW bits. -/
  timeout : Nat
  /-- R26: ticks spent in the current output segment. -/
  seg : Nat
  /-- R26: position of the bit being sent. -/
  bitPos : BitVec 3
  /-- R26: index of the byte being sent. -/
  byteIdx : BitVec 2
  /-- R27: the elapsed counter, TW bits, saturating. -/
  el : Nat
  /-- R28: the poll divider. -/
  poll : Nat
  /-- R29: `el` at the last line-ready poll that sampled low. -/
  lrLastLow : Nat
  /-- R30: the step of the measurement. -/
  mp : MeasStep
  /-- R30: samples examined in that step. -/
  mc : Nat
  /-- R31: the byte accumulator. -/
  acc : Byte
  /-- R31: index of the next bit to be decoded. -/
  bitCnt : BitVec 3
  /-- R31: a BREAK has been emitted for the current idle gap. -/
  gapNoted : Bool
  /-- R32: the event buffer, the head first. -/
  evbuf : List Event
  /-- R32: the buffer has been flushed and may be read. -/
  evRdy : Bool
  /-- R32: the last MONITOR dropped an event. -/
  evOvf : Bool
  /-- R33: 1 is output. -/
  dir : Bool
  /-- R33: the driven level. -/
  lineOut : Level
  /-- R34: an INIT has been accepted. -/
  bound : Bool
  /-- R34: the bound pin identifier, PINW ≤ 8 bits. -/
  pin : Byte
  /-- R35: the last write to CMD_HI was rejected. -/
  rej : Bool
  /-- R35: the cause of that rejection. -/
  rcause : Cause
  /-- R35: the last SEND left LR by the timeout. -/
  lrto : Bool
  /-- R35: the last SEND ended its padding on a low sample. -/
  padcut : Bool
  /-- R36: RATE of the last accepted MONITOR. -/
  diagRate : BitVec 24
  /-- R37: cw[31:0] as last written. -/
  cmdLo : Word
  /-- R37: cw[63:32] as last written. -/
  cmdHi : Word
  /-- MODEL'S OWN: which line this block is wired to (R34, R213; notes/assumptions/4.md). -/
  lineId : Nat
  /-- MODEL'S OWN: the number of ticks taken (R11; notes/assumptions/4.md). -/
  tick : Nat
  /-- MODEL'S OWN: the levels of `line_i` in the coming ticks (R21, I17; notes/assumptions/4.md). -/
  lineIn : List Level
  /-- MODEL'S OWN: the host ports in the coming ticks (R21, I24; notes/assumptions/5.md). -/
  hostIn : List HostTick
  /-- MODEL'S OWN: the port `hrdata` of the tick just taken (R21; notes/assumptions/6.md). -/
  hrdata : Option Word
  deriving DecidableEq, Repr

/-- The machine right after reset: the table of R46. The last five fields are the model's own. -/
def State.reset : State where
  phase := .idle
  fb := ⟨0, 0, 0, 0⟩
  nbytes := 0
  mode := 0
  mi := false
  timeout := 0
  seg := 0
  bitPos := 0
  byteIdx := 0
  el := 0
  poll := 0
  lrLastLow := 0
  mp := .top
  mc := 0
  acc := 0
  bitCnt := 0
  gapNoted := false
  evbuf := []
  evRdy := false
  evOvf := false
  dir := false
  lineOut := true
  bound := false
  pin := 0
  rej := false
  rcause := .none
  lrto := false
  padcut := false
  diagRate := 0
  cmdLo := 0
  cmdHi := 0
  lineId := 0
  tick := 0
  lineIn := []
  hostIn := []
  hrdata := none

/-- The faults of the machine: none. "**fault** and **stuck** are not used, because no behaviour of
this block faults or hangs" (spec/93_implementation_defined.md). -/
inductive Fault
  deriving DecidableEq, Repr

/-- Why a step has no outcome. -/
inductive Refusal where
  /-- Raised by the dispatch for an instruction without a meaning: no arm of this model raises it.
  Safe: nothing is claimed of it. -/
  | notModelled (mnemonic : String)
  /-- Raised by the step where the configuration breaks R8: "A model refuses any other
  configuration." Safe: nothing is claimed of such a block. -/
  | badConfiguration
  deriving DecidableEq, Repr

end Sys2Proof.Machine
end

