-- ==== Sys2Proof/Machine/Flags.lean ====
section
/-!
DEFINITION. The status flags: every write of a flag that spec/10_state.md R47 lists, the fields of
STATUS (R39) and the codes that STATUS and MON_STATE show (R24, R30, R201).
-/

namespace Sys2Proof.Machine

/-! ### Codes -/

/-- STATUS.PHASE (R24). -/
def Phase.code : Phase → BitVec 4
  | .idle => 0
  | .lr => 1
  | .syncLo => 2
  | .syncHi => 3
  | .bitLo => 4
  | .bitHi => 5
  | .pad => 6
  | .mon => 7

/-- MON_STATE.MP (R30, R44). -/
def MeasStep.code : MeasStep → BitVec 2
  | .top => 0
  | .waitOut => 1
  | .waitStart => 2
  | .time => 3

/-- STATUS.RCAUSE (R201). -/
def Cause.code : Cause → BitVec 3
  | .none => 0
  | .busy => 1
  | .badOp => 2
  | .rsvdBits => 3
  | .badMode => 4
  | .unbound => 5

/-- STATUS.BUSY: `phase` ≠ IDLE (R24, R39). -/
def State.busy (s : State) : Bool := decide (s.phase ≠ .idle)

/-! ### The writes of R47 -/

/-- `rej` and `rcause` of a rejected CMD_HI write (R200). -/
def State.recordRejection (cause : Cause) (s : State) : State :=
  { s with rej := true, rcause := cause }

/-- `rej` and `rcause` of an accepted CMD_HI write (R100). -/
def State.clearRejection (s : State) : State := { s with rej := false, rcause := .none }

/-- `lrto` and `padcut` at a SEND's acceptance (R103). -/
def State.clearSendReports (s : State) : State := { s with lrto := false, padcut := false }

/-- LR ended by the timeout (R131). -/
def State.reportLineReadyTimeout (s : State) : State := { s with lrto := true }

/-- PAD ended by a low sample (R140). -/
def State.reportPadCut (s : State) : State := { s with padcut := true }

/-- The event buffer and its flags at a MONITOR's acceptance (R104). -/
def State.clearEvents (s : State) : State := { s with evbuf := [], evRdy := false, evOvf := false }

/-- The events become readable (R167). -/
def State.publishEvents (s : State) : State := { s with evRdy := true }

/-- An event was dropped (R185). -/
def State.reportOverflow (s : State) : State := { s with evOvf := true }

/-- A BREAK has been emitted for this idle gap (R172). -/
def State.noteGap (s : State) : State := { s with gapNoted := true }

/-- A nonzero measurement, or a new capture, starts the gap tracking anew (R179, R104). -/
def State.clearGap (s : State) : State := { s with gapNoted := false }

/-! ### STATUS -/

/-- The STATUS word of R39, built from the state and the sample of the read tick. -/
def State.statusWord (line : Level) (s : State) : Word :=
  0#15 ++ BitVec.ofBool line ++ BitVec.ofBool s.evOvf ++ BitVec.ofBool s.evRdy ++
    BitVec.ofBool s.padcut ++ BitVec.ofBool s.lrto ++ s.rcause.code ++ BitVec.ofBool s.rej ++
    s.phase.code ++ BitVec.ofBool s.bound ++ BitVec.ofBool s.lineOut ++ BitVec.ofBool s.dir ++
    BitVec.ofBool s.busy

end Sys2Proof.Machine
end

