-- ==== Sys2Proof/Machine/Operands.lean ====
section
/-!
DEFINITION. The operand forms of the block: the read data of each host register (spec/10_state.md
R38 to R45), event words (spec/30_encoding.md R86, R87), the operand latches that a command writes
(R25, spec/40_commands.md R102 to R104), and the byte view of a platform (spec/20_memory.md R53).
-/

namespace Sys2Proof.Machine

/-! ### Frame bytes -/

/-- `fb[i]` (R25). -/
def FrameBytes.get (fb : FrameBytes) (i : BitVec 2) : Byte :=
  match i.toNat with
  | 0 => fb.b0
  | 1 => fb.b1
  | 2 => fb.b2
  | _ => fb.b3

/-- `fb[i] <- v` (R25). -/
def FrameBytes.set (fb : FrameBytes) (i : BitVec 2) (v : Byte) : FrameBytes :=
  match i.toNat with
  | 0 => { fb with b0 := v }
  | 1 => { fb with b1 := v }
  | 2 => { fb with b2 := v }
  | _ => { fb with b3 := v }

/-- The frame bytes that a SEND latches over `fb` (R103): DEV, C1, then C2 if P2 = 1, then C3 if
P3 = 1, each in the next place. A byte whose present-bit is 0 is never latched. -/
def latchedBytes (p2 p3 : Bool) (dev c1 c2 c3 : Byte) (fb : FrameBytes) : FrameBytes :=
  let two := (fb.set 0 dev).set 1 c1
  let three := if p2 then two.set 2 c2 else two
  if p3 then three.set (if p2 then 3 else 2) c3 else three

/-- The number of frame bytes of a SEND: 2, 3 or 4 (R103). -/
def latchedCount (p2 p3 : Bool) : BitVec 3 :=
  (2 + if p2 then 1 else 0) + if p3 then 1 else 0

/-- The bytes of the frame in the order they are sent: fb[0], ..., fb[nbytes−1] (R139). -/
def State.frameBytes (s : State) : List Byte :=
  [s.fb.b0, s.fb.b1, s.fb.b2, s.fb.b3].take s.nbytes.toNat

/-- The value of a MONITOR's TIMEOUT field, zero-extended to TW bits (R77). -/
def timeoutValue (timeout : Word) : Nat := timeout.toNat

/-! ### Event words -/

/-- KIND (R87). -/
def Event.kind : Event → BitVec 3
  | .frame => 1
  | .bit _ => 2
  | .byte _ => 3
  | .raw _ => 4
  | .lineBreak => 5

/-- PAYLOAD (R87). -/
def Event.payload : Event → BitVec 16
  | .frame => 0
  | .bit b => 0#15 ++ BitVec.ofBool b
  | .byte v => 0#8 ++ v
  | .raw d => d
  | .lineBreak => 0

/-- The EVDATA word of a read that returns this event: VALID = 1 (R86). -/
def Event.word (e : Event) : Word := 1#1 ++ e.kind ++ 0#12 ++ e.payload

/-! ### Read data -/

/-- PIN: zext_32(pin) (R40). -/
def State.pinWord (s : State) : Word := s.pin.setWidth 32

/-- DIAG_RATE: zext_32(diagRate) (R41). -/
def State.diagRateWord (s : State) : Word := s.diagRate.setWidth 32

/-- EVCOUNT: the length of the buffer where it is readable, else 0 (R42). -/
def State.evcountWord (s : State) : Word :=
  if s.evRdy then BitVec.ofNat 32 s.evbuf.length else 0

/-- EVDATA: the head event where one is readable, else 0 (R43). -/
def State.evdataWord (s : State) : Word :=
  if s.evRdy then
    match s.evbuf with
    | [] => 0
    | e :: _ => e.word
  else 0

/-- MON_STATE (R44). -/
def State.monStateWord (s : State) : Word :=
  0#3 ++ BitVec.ofNat 12 s.mc ++ BitVec.ofBool s.mi ++ s.mode ++ s.mp.code ++
    BitVec.ofBool s.gapNoted ++ s.bitCnt ++ s.acc

/-- The read data of each register in a tick whose sample is `line` (R38, R39 to R45). -/
def State.readData (line : Level) (s : State) : Reg → Word
  | .cmdLo => s.cmdLo
  | .cmdHi => s.cmdHi
  | .status => s.statusWord line
  | .pin => s.pinWord
  | .diagRate => s.diagRateWord
  | .evcount => s.evcountWord
  | .evdata => s.evdataWord
  | .monState => s.monStateWord

/-! ### The platform's view -/

/-- SLINK_BASE, the base address of a block's register window: the OPEN parameter of
spec/92_eei_decisions.md, an argument of every platform operation, aligned to 32 bytes as the number of a
32-byte window. -/
def slinkBase (window : Nat) : Nat := 32 * window

/-- The host address that a platform address selects in the block at window `window`, if it lies in that
window (R51). -/
def platformAddress (window addr : Nat) : Option (BitVec 5) :=
  if slinkBase window ≤ addr ∧ addr < slinkBase window + 32 then
    some (BitVec.ofNat 5 (addr - slinkBase window))
  else none

/-- The byte of a register value that a byte-addressed platform shows at a host address: bits
[8k+7:8k] at byte offset 4·index + k, which is little-endian (R53). -/
def State.platformByte (line : Level) (s : State) (haddr : BitVec 5) : Byte :=
  (s.readData line (decodeReg haddr)).extractLsb' (8 * (haddr.extractLsb' 0 2).toNat) 8

end Sys2Proof.Machine
end

