-- ==== Sys2Proof/Machine/Transmit.lean ====
section
/-!
DEFINITION. The transmit path (spec/41_transmit.md): the idle-line detector, the pulse-width encoder,
the frame sequencer and the padding, each as one tick of its phase; and the waveform and length of a
frame (R84, R141).
-/

namespace Sys2Proof.Machine

/-- Saturating truncation to TW bits: sat_TW (R9, R27). -/
def saturate (c : Config) (x : Nat) : Nat := min x (2 ^ c.tw - 1)

/-- `el <- sat_TW(el + 1)` (R27). -/
def State.countElapsed (c : Config) (s : State) : State := { s with el := saturate c (s.el + 1) }

/-- `el <- sat_TW(el + 1); poll <- poll + 1` (R131, R140). -/
def State.countPoll (c : Config) (s : State) : State :=
  { s with el := saturate c (s.el + 1), poll := s.poll + 1 }

/-- `el <- sat_TW(el + 1); seg <- seg + 1` (R134, R135, R137, R138). -/
def State.countSegment (c : Config) (s : State) : State :=
  { s with el := saturate c (s.el + 1), seg := s.seg + 1 }

/-! ### Idle-line detector -/

/-- StartFrame(): leave LR and begin the sync mark; `el` counts from this anchor (R132). -/
def State.startFrame (s : State) : State :=
  { s with dir := true, lineOut := false, seg := 0, el := 0, phase := .syncLo }

/-- What one line-ready poll records of its sample (R131): `lrLastLow <- el` where the line is low. -/
def State.recordPoll (line : Level) (s : State) : State :=
  { s with poll := 0, lrLastLow := if line then s.lrLastLow else s.el }

/-- How a line-ready poll ends (R131): the idle exit before the timeout exit. -/
def State.decidePoll (c : Config) (s : State) : State :=
  if c.tLrIdle ≤ s.el - s.lrLastLow then s.startFrame
  else if c.tLrTimeout ≤ s.el then s.reportLineReadyTimeout.startFrame
  else s

/-- One tick of LR (R131). -/
def State.lrStep (c : Config) (line : Level) (s : State) : State :=
  if s.poll + 1 = c.tPoll then ((s.countPoll c).recordPoll line).decidePoll c
  else s.countPoll c

/-! ### Pulse-width encoder and frame sequencer -/

/-- markLen(b), the pulse-width modulation function (R136). -/
def markLen (c : Config) (b : Bool) : Nat := if b then c.tOne else c.tZero

/-- fb[byteIdx][bitPos], the bit being sent (R137). -/
def State.frameBit (s : State) : Bool := (s.fb.get s.byteIdx).getLsbD s.bitPos.toNat

/-- A mark ends: the line goes high and the delimiter begins (R134, R137). -/
def State.endMark (next : Phase) (s : State) : State :=
  { s with lineOut := true, seg := 0, phase := next }

/-- The mark of the bit at `bitPos` of byte `byteIdx` begins (R135, R138). -/
def State.startBit (byteIdx : BitVec 2) (bitPos : BitVec 3) (s : State) : State :=
  { s with byteIdx := byteIdx, bitPos := bitPos, seg := 0, lineOut := false, phase := .bitLo }

/-- The frame ends: the line is released; padding follows unless T_FRAME has passed (R138). -/
def State.endFrame (c : Config) (s : State) : State :=
  { s with
    seg := 0, dir := false, poll := 0
    phase := if c.tFrame ≤ s.el then .idle else .pad }

/-- One tick of SYNC_LO (R134). -/
def State.syncLoStep (c : Config) (s : State) : State :=
  if s.seg + 1 = c.tSync then (s.countSegment c).endMark .syncHi else s.countSegment c

/-- One tick of SYNC_HI (R135). -/
def State.syncHiStep (c : Config) (s : State) : State :=
  if s.seg + 1 = c.tDelim then (s.countSegment c).startBit 0 7 else s.countSegment c

/-- One tick of BIT_LO (R137). -/
def State.bitLoStep (c : Config) (s : State) : State :=
  if s.seg + 1 = markLen c s.frameBit then (s.countSegment c).endMark .bitHi
  else s.countSegment c

/-- What follows the delimiter of a bit (R138): the next bit of the byte, the first bit of the next
byte, or the end of the frame. -/
def State.nextSymbol (c : Config) (s : State) : State :=
  if 0 < s.bitPos.toNat then s.startBit s.byteIdx (s.bitPos - 1)
  else if s.byteIdx.toNat + 1 < s.nbytes.toNat then s.startBit (s.byteIdx + 1) 7
  else s.endFrame c

/-- One tick of BIT_HI (R138). -/
def State.bitHiStep (c : Config) (s : State) : State :=
  if s.seg + 1 = c.tDelim then (s.countSegment c).nextSymbol c else s.countSegment c

/-! ### Post-frame padding -/

/-- How a padding poll ends (R140): the cut by a low sample before the end at T_FRAME. -/
def State.decidePad (c : Config) (line : Level) (s : State) : State :=
  if line then
    if c.tFrame ≤ s.el then { s with poll := 0, phase := .idle } else { s with poll := 0 }
  else { s.reportPadCut with poll := 0, phase := .idle }

/-- One tick of PAD (R140). -/
def State.padStep (c : Config) (line : Level) (s : State) : State :=
  if s.poll + 1 = c.tPoll then (s.countPoll c).decidePad c line else s.countPoll c

/-! ### Waveform -/

/-- The bits of a byte in the order they are sent, bit 7 first (R54). -/
def bitsMsbFirst (v : Byte) : List Bool :=
  [v.getLsbD 7, v.getLsbD 6, v.getLsbD 5, v.getLsbD 4,
   v.getLsbD 3, v.getLsbD 2, v.getLsbD 1, v.getLsbD 0]

/-- The symbols of a frame as mark lengths: the sync mark, then each bit (R80 to R83). Each mark is
followed by a delimiter of T_DELIM. -/
def frameMarks (c : Config) (bytes : List Byte) : List Nat :=
  c.tSync :: (bytes.flatMap bitsMsbFirst).map (markLen c)

/-- frameLen: ticks from the frame anchor to the end of the last delimiter (R84). -/
def frameLen (c : Config) (bytes : List Byte) : Nat :=
  ((frameMarks c bytes).map (· + c.tDelim)).sum

/-- The level of the line `k` ticks into a row of marks, each with its delimiter; high after them
(R141). -/
def levelAt (c : Config) : List Nat → Nat → Level
  | [], _ => true
  | m :: rest, k =>
    if k < m then false
    else if k < m + c.tDelim then true
    else levelAt c rest (k - (m + c.tDelim))

/-- The driven level `k` ticks after the frame anchor (R141). -/
def waveform (c : Config) (bytes : List Byte) (k : Nat) : Level := levelAt c (frameMarks c bytes) k

end Sys2Proof.Machine
end

