-- ==== Sys2Proof/Machine/Receive.lean ====
section
/-!
DEFINITION. The receive path (spec/42_receive.md): pulse measurement, the classifier, the sync
detector, the bit decoder, the byte assembler, the events and the flush, as one tick of MON.
-/

namespace Sys2Proof.Machine

/-! ### Events -/

/-- Emit(ev): append the event, or drop it and report the drop where the buffer is full (R185). -/
def State.emit (c : Config) (e : Event) (s : State) : State :=
  if s.evbuf.length < c.evCap then { s with evbuf := s.evbuf ++ [e] } else s.reportOverflow

/-! ### Classifier -/

/-- The classes of a measured duration (R171). -/
inductive Symbol where
  | sync
  | one
  | zero
  | unknown
  deriving DecidableEq, Repr

/-- inBand(d, T), the tolerance-band test, exact over the integers (R170). -/
def inBand (c : Config) (d t : Nat) : Bool :=
  decide (c.tolDen * t ≤ c.tolNum * d) && decide (c.tolDen * d ≤ c.tolNum * t)

/-- Classify(d): SYNC, then ONE, then ZERO (R171). A mark that a reset of its sender cuts short is classified
by its length like any other, so it can fall into a band, where R246 says that receivers see an UNKNOWN
or over-cap pulse (DESIGN CHOICE; notes/assumptions/21.md). -/
def classify (c : Config) (d : Nat) : Symbol :=
  if inBand c d c.tSync then .sync
  else if inBand c d c.tOne then .one
  else if inBand c d c.tZero then .zero
  else .unknown

/-! ### Sync detector, bit decoder and byte assembler -/

/-- `acc <- 0; bitCnt <- 0`. -/
def State.clearByte (s : State) : State := { s with acc := 0, bitCnt := 0 }

/-- NoSignal(): the result 0 (R172). -/
def State.onNoSignal (c : Config) (s : State) : State :=
  if s.gapNoted then s.clearByte else (s.clearByte.emit c .lineBreak).noteGap

/-- Raw(d), mode 0 (R173). -/
def State.onRaw (c : Config) (d : Nat) (s : State) : State := s.emit c (.raw (BitVec.ofNat 16 d))

/-- OnSync() (R174). -/
def State.onSync (c : Config) (s : State) : State := (s.emit c .frame).clearByte

/-- Advance(), the byte assembler (R178). -/
def State.advanceBit (c : Config) (s : State) : State :=
  if s.bitCnt = 7 then (s.emit c (.byte s.acc)).clearByte else { s with bitCnt := s.bitCnt + 1 }

/-- The BIT event of a decoded bit, in mode 1 only (R175, R176). -/
def State.emitBit (c : Config) (b : Bool) (s : State) : State :=
  if s.mode = 1 then s.emit c (.bit b) else s

/-- `acc[7 − bitCnt] <- 1` (R175). -/
def State.setAccBit (s : State) : State :=
  { s with acc := s.acc ||| (0x80#8 >>> s.bitCnt.toNat) }

/-- OnOne() (R175). -/
def State.onOne (c : Config) (s : State) : State := (s.setAccBit.emitBit c true).advanceBit c

/-- OnZero() (R176). -/
def State.onZero (c : Config) (s : State) : State := (s.emitBit c false).advanceBit c

/-- OnUnknown(): the partial byte is discarded and no event emitted (R177). -/
def State.onUnknown (s : State) : State := s.clearByte

/-- What a symbol does (R166). -/
def State.onSymbol (c : Config) : Symbol → State → State
  | .sync, s => s.onSync c
  | .one, s => s.onOne c
  | .zero, s => s.onZero c
  | .unknown, s => s.onUnknown

/-- Handle(d): hand a measurement result to the decoder (R166). -/
def State.handle (c : Config) (d : Nat) (s : State) : State :=
  if d = 0 then s.onNoSignal c
  else if s.mode = 0 then s.clearGap.onRaw c d
  else s.clearGap.onSymbol c (classify c d)

/-! ### Pulse measurement -/

/-- ret(d): handle the result and return to the loop head (R166). -/
def State.returnResult (c : Config) (d : Nat) (s : State) : State :=
  { s.handle c d with mp := .top, mc := 0 }

/-- Go on to a measurement step whose first sample is this one. -/
def State.enterStep (m : MeasStep) (s : State) : State := { s with mp := m, mc := 1 }

/-- `mc <- mc + 1; if mc = T_MEAS_CAP: ret(0)`: one more sample without the awaited edge (R163 to
R165). -/
def State.countSample (c : Config) (s : State) : State :=
  if s.mc + 1 = c.tMeasCap then { s with mc := s.mc + 1 }.returnResult c 0
  else { s with mc := s.mc + 1 }

/-- The measured polarity P (R161): low phases where `mi` = 0, high phases where `mi` = 1. -/
def State.polarity (s : State) : Level := s.mi

/-- Step A: wait out a pulse already in progress (R163). -/
def State.waitOutStep (c : Config) (line : Level) (s : State) : State :=
  if line = s.polarity then s.countSample c else s.enterStep .waitStart

/-- Step B: wait for a pulse to start (R164). -/
def State.waitStartStep (c : Config) (line : Level) (s : State) : State :=
  if line = s.polarity then s.enterStep .time else s.countSample c

/-- Step C: time the pulse (R165). -/
def State.timeStep (c : Config) (line : Level) (s : State) : State :=
  if line = s.polarity then s.countSample c else s.returnResult c s.mc

/-- Flush(): end the capture (R167). -/
def State.flush (s : State) : State := { s.publishEvents with phase := .idle }

/-- A new measurement starts in this tick, at step A (R162). -/
def State.startMeasurement (s : State) : State := { s with mp := .waitOut, mc := 0 }

/-- One tick of MON (R162). The timeout is tested at the loop head only, on `el` before this tick's
count. -/
def State.monStep (c : Config) (line : Level) (s : State) : State :=
  match s.mp with
  | .top =>
    if s.timeout ≤ s.el then (s.countElapsed c).flush
    else (s.countElapsed c).startMeasurement.waitOutStep c line
  | .waitOut => (s.countElapsed c).waitOutStep c line
  | .waitStart => (s.countElapsed c).waitStartStep c line
  | .time => (s.countElapsed c).timeStep c line

end Sys2Proof.Machine
end

