-- ==== Sys2Proof/Machine/Ops.lean ====
section
/-!
DEFINITION. The shared operations of a tick (spec/10_state.md R22): the sample, the phase step, the
outputs, and the forms a tick takes with the host: no access, a read, a write, a command issue, a
reset. Command rejection, the block's one exception (spec/60_exceptions.md R200 to R203), is
`State.reject`; there is no trap entry and no return (R205, R206).
-/

namespace Sys2Proof.Machine

/-! ### The line and the outputs -/

/-- Sample(): the level of `line_i` in the current tick (R10, R20). -/
def State.sample (s : State) : Level :=
  match s.lineIn with
  | [] => Config.lineDraw s.lineId s.tick
  | b :: _ => b

/-- The Moore output `line_oe` (R22 step 2). -/
def State.lineOe (s : State) : Bool := s.dir

/-- The Moore output `line_o` (R22 step 2). -/
def State.lineO (s : State) : Level := s.lineOut

/-! ### The phase step -/

/-- One step of the current phase (R22 step 4). The IDLE step changes nothing (R120). -/
def State.phaseStep (c : Config) (line : Level) (s : State) : State :=
  match s.phase with
  | .idle => s
  | .lr => s.lrStep c line
  | .syncLo => s.syncLoStep c
  | .syncHi => s.syncHiStep c
  | .bitLo => s.bitLoStep c
  | .bitHi => s.bitHiStep c
  | .pad => s.padStep c line
  | .mon => s.monStep c line

/-! ### Forms of a tick -/

/-- The end of a tick: its inputs are consumed, and `hrdata` is what the port carried. -/
def State.endTick (rd : Option Word) (s : State) : State :=
  { s with tick := s.tick + 1, lineIn := s.lineIn.tail, hostIn := s.hostIn.tail, hrdata := rd }

/-- A tick in which the host makes no access (R22 steps 2 and 4). -/
def State.silentTick (c : Config) (s : State) : State := (s.phaseStep c s.sample).endTick none

/-- A tick with a read: the data come from S(t), before the phase step (R22 steps 3 and 4). -/
def State.readTick (c : Config) (rd : Word) (s : State) : State :=
  (s.phaseStep c s.sample).endTick (some rd)

/-- A tick with a host effect: it is applied after the phase step (R22 steps 4 and 5). -/
def State.effectTick (c : Config) (rd : Option Word) (effect : State → State) (s : State) : State :=
  (effect (s.phaseStep c s.sample)).endTick rd

/-- The `hrdata` of a tick with `rst` = 1: a read returns 0 (R22 step 1, R233). -/
def resetReadData : Option BusAccess → Option Word
  | some a => if a.hwrite then none else some 0
  | none => none

/-- A tick with `rst` = 1: S(t+1) is the reset state; an access neither observes nor changes anything
(R22 step 1, R230, R233). A reset rewires nothing: `lineId` stays. -/
def State.resetTick (a : Option BusAccess) (s : State) : State :=
  { State.reset with
    lineId := s.lineId, tick := s.tick + 1, lineIn := s.lineIn.tail, hostIn := s.hostIn.tail
    hrdata := resetReadData a }

/-! ### Command issue and rejection -/

/-- CheckCommand(cw, S): the first cause of R202's order that applies, or NONE (R201). -/
def checkCommand (c : Config) (cw : CommandWord) (s : State) : Cause :=
  if s.phase ≠ .idle then .busy
  else if opReserved c cw then .badOp
  else if reservedBitSet c cw then .rsvdBits
  else if modeIllegal cw then .badMode
  else if (opField cw = 2#4 ∨ opField cw = 3#4) ∧ s.bound = false then .unbound
  else .none

/-- Reject(cause): the refusal is recorded and nothing else changes (R200, R203). -/
def State.reject (cause : Cause) (s : State) : State := s.recordRejection cause

/-- `cmdHi <- v` (R100). -/
def State.storeCmdHi (v : Word) (s : State) : State := { s with cmdHi := v }

/-- What the issue of a command word does after the phase step, once CheckCommand has answered
(R100): reject, or clear the report and let the operation take effect. -/
def State.settle (cause : Cause) (accept : State → State) (s : State) : State :=
  if cause = .none then accept s.clearRejection else s.reject cause

/-- The tick of a CMD_HI write that issues the word `cw` (R100). CheckCommand reads S(t); the store of
`cmdHi` happens also where the word is rejected. -/
def State.issueTick (c : Config) (cw : CommandWord) (accept : State → State) (s : State) : State :=
  s.effectTick c none fun w =>
    (w.storeCmdHi (cw.extractLsb' 32 32)).settle (checkCommand c cw s) accept

/-! ### What an accepted command does -/

/-- NOP: nothing beyond the cleared report (R101). -/
def State.acceptNop (s : State) : State := s

/-- INIT: bind the pin, set the line to input (R102). -/
def State.acceptInit (pin : Byte) (s : State) : State :=
  { s with pin := pin, bound := true, dir := false }

/-- SEND: latch the frame and enter the line-ready check (R103). -/
def State.acceptSend (p2 p3 : Bool) (dev c1 c2 c3 : Byte) (s : State) : State :=
  { s.clearSendReports with
    fb := latchedBytes p2 p3 dev c1 c2 c3 s.fb
    nbytes := latchedCount p2 p3
    dir := false, el := 0, poll := 0, lrLastLow := 0
    phase := .lr }

/-- MONITOR: start a capture (R104). -/
def State.acceptMonitor (mode : BitVec 2) (mi : Bool) (timeout : Word) (rate : BitVec 24)
    (s : State) : State :=
  { s.clearEvents.clearGap.clearByte with
    mode := mode, mi := mi, timeout := timeoutValue timeout, diagRate := rate
    mp := .top, mc := 0, el := 0
    dir := false
    phase := .mon }

/-- The operation that an accepted command word selects (R71, R100). -/
def State.acceptCommand (c : Config) (cw : CommandWord) (s : State) : State :=
  match decodeCommand c cw with
  | .ok (.init pin) => s.acceptInit pin
  | .ok (.send p2 p3 dev c1 c2 c3) => s.acceptSend p2 p3 dev c1 c2 c3
  | .ok (.monitor mode mi timeout rate) => s.acceptMonitor mode mi timeout rate
  | _ => s.acceptNop

/-! ### Host effects of register accesses -/

/-- `cmdLo <- v` (R105). -/
def State.storeCmdLo (v : Word) (s : State) : State := { s with cmdLo := v }

/-- A write to a read-only register changes no field (R114). -/
def State.ignoreWrite (_v : Word) (s : State) : State := s

/-- The pop of an EVDATA read, decided on S(t) = `s` and applied to the working copy (R112). -/
def State.popEvent (s w : State) : State :=
  if s.evRdy = true ∧ s.evbuf ≠ [] then { w with evbuf := s.evbuf.tail } else w

end Sys2Proof.Machine
end

