-- ==== Sys2Proof/Machine/Commands.lean ====
section
/-!
DEFINITION. The meanings of the four command words (spec/40_commands.md R101 to R104): the tick of the
CMD_HI write that issues the word. The word's low half stands in CMD_LO already, and CMD_LO is left as
it is (notes/assumptions/9.md). What the operation does in the ticks that follow is the phase step.
-/

namespace Sys2Proof.Machine

/-- NOP (R101). -/
def execNop (s : State) : Host.Outcome State Fault Refusal :=
  .next (s.issueTick Config.hw encodeNop State.acceptNop)

/-- INIT (R102). -/
def execInit (pin : Byte) (s : State) : Host.Outcome State Fault Refusal :=
  .next (s.issueTick Config.hw (encodeInit pin) (State.acceptInit pin))

/-- SEND (R103). -/
def execSend (p2 p3 : Bool) (dev c1 c2 c3 : Byte) (s : State) : Host.Outcome State Fault Refusal :=
  .next (s.issueTick Config.hw (encodeSend p2 p3 dev c1 c2 c3)
    (State.acceptSend p2 p3 dev c1 c2 c3))

/-- MONITOR (R104). -/
def execMonitor (mode : BitVec 2) (mi : Bool) (timeout : Word) (rate : BitVec 24) (s : State) :
    Host.Outcome State Fault Refusal :=
  .next (s.issueTick Config.hw (encodeMonitor mode mi timeout rate)
    (State.acceptMonitor mode mi timeout rate))

end Sys2Proof.Machine
end

