-- ==== Sys2Proof/Machine/Reads.lean ====
section
/-!
DEFINITION. The meanings of the register reads (spec/40_commands.md R106 to R113): the tick in which
the host makes the access. The data come from S(t).
-/

namespace Sys2Proof.Machine

/-- Read CMD_LO (R106). -/
def execRdCmdLo (s : State) : Host.Outcome State Fault Refusal :=
  .next (s.readTick Config.hw s.cmdLo)

/-- Read CMD_HI (R107). -/
def execRdCmdHi (s : State) : Host.Outcome State Fault Refusal :=
  .next (s.readTick Config.hw s.cmdHi)

/-- Read STATUS (R108). -/
def execRdStatus (s : State) : Host.Outcome State Fault Refusal :=
  .next (s.readTick Config.hw (s.statusWord s.sample))

/-- Read PIN (R109). -/
def execRdPin (s : State) : Host.Outcome State Fault Refusal :=
  .next (s.readTick Config.hw s.pinWord)

/-- Read DIAG_RATE (R110). -/
def execRdDiagRate (s : State) : Host.Outcome State Fault Refusal :=
  .next (s.readTick Config.hw s.diagRateWord)

/-- Read EVCOUNT (R111). -/
def execRdEvcount (s : State) : Host.Outcome State Fault Refusal :=
  .next (s.readTick Config.hw s.evcountWord)

/-- Read EVDATA: returns the head event and removes it (R112). -/
def execRdEvdata (s : State) : Host.Outcome State Fault Refusal :=
  .next (s.effectTick Config.hw (some s.evdataWord) s.popEvent)

/-- Read MON_STATE (R113). -/
def execRdMonState (s : State) : Host.Outcome State Fault Refusal :=
  .next (s.readTick Config.hw s.monStateWord)

end Sys2Proof.Machine
end

