-- ==== Sys2Proof/Machine/Writes.lean ====
section
/-!
DEFINITION. The meanings of the register writes (spec/40_commands.md R100, R105, R114): the tick in
which the host makes the access.
-/

namespace Sys2Proof.Machine

/-- Write CMD_LO: a store, in any phase (R105). -/
def execWrCmdLo (v : Word) (s : State) : Host.Outcome State Fault Refusal :=
  .next (s.effectTick Config.hw none (State.storeCmdLo v))

/-- Write CMD_HI: store, and issue the word {v, S(t).cmdLo} (R100). -/
def execWrCmdHi (v : Word) (s : State) : Host.Outcome State Fault Refusal :=
  .next (s.issueTick Config.hw (commandWord v s.cmdLo)
    (State.acceptCommand Config.hw (commandWord v s.cmdLo)))

/-- Write STATUS: ignored (R114). -/
def execWrStatus (v : Word) (s : State) : Host.Outcome State Fault Refusal :=
  .next (s.effectTick Config.hw none (State.ignoreWrite v))

/-- Write PIN: ignored (R114). -/
def execWrPin (v : Word) (s : State) : Host.Outcome State Fault Refusal :=
  .next (s.effectTick Config.hw none (State.ignoreWrite v))

/-- Write DIAG_RATE: ignored (R114). -/
def execWrDiagRate (v : Word) (s : State) : Host.Outcome State Fault Refusal :=
  .next (s.effectTick Config.hw none (State.ignoreWrite v))

/-- Write EVCOUNT: ignored (R114). -/
def execWrEvcount (v : Word) (s : State) : Host.Outcome State Fault Refusal :=
  .next (s.effectTick Config.hw none (State.ignoreWrite v))

/-- Write EVDATA: ignored; no event is removed (R114). -/
def execWrEvdata (v : Word) (s : State) : Host.Outcome State Fault Refusal :=
  .next (s.effectTick Config.hw none (State.ignoreWrite v))

/-- Write MON_STATE: ignored (R114). -/
def execWrMonState (v : Word) (s : State) : Host.Outcome State Fault Refusal :=
  .next (s.effectTick Config.hw none (State.ignoreWrite v))

end Sys2Proof.Machine
end

