-- ==== Sys2Proof/Machine/Dispatch.lean ====
section
/-!
DEFINITION. The dispatch: one arm per constructor of `Instr`, each one call of a meaning. `exec i s` is
the whole tick in which the host makes the access that `i` is (for a command word: the CMD_HI write
that issues it), with `rst` = 0.
-/

namespace Sys2Proof.Machine

def exec (i : Instr) (s : State) : Host.Outcome State Fault Refusal :=
  match i with
  | .nop => Sys2Proof.Machine.execNop s
  | .init pin => Sys2Proof.Machine.execInit pin s
  | .send p2 p3 dev c1 c2 c3 => Sys2Proof.Machine.execSend p2 p3 dev c1 c2 c3 s
  | .monitor mode mi timeout rate => Sys2Proof.Machine.execMonitor mode mi timeout rate s
  | .wrCmdLo v => Sys2Proof.Machine.execWrCmdLo v s
  | .wrCmdHi v => Sys2Proof.Machine.execWrCmdHi v s
  | .wrStatus v => Sys2Proof.Machine.execWrStatus v s
  | .wrPin v => Sys2Proof.Machine.execWrPin v s
  | .wrDiagRate v => Sys2Proof.Machine.execWrDiagRate v s
  | .wrEvcount v => Sys2Proof.Machine.execWrEvcount v s
  | .wrEvdata v => Sys2Proof.Machine.execWrEvdata v s
  | .wrMonState v => Sys2Proof.Machine.execWrMonState v s
  | .rdCmdLo => Sys2Proof.Machine.execRdCmdLo s
  | .rdCmdHi => Sys2Proof.Machine.execRdCmdHi s
  | .rdStatus => Sys2Proof.Machine.execRdStatus s
  | .rdPin => Sys2Proof.Machine.execRdPin s
  | .rdDiagRate => Sys2Proof.Machine.execRdDiagRate s
  | .rdEvcount => Sys2Proof.Machine.execRdEvcount s
  | .rdEvdata => Sys2Proof.Machine.execRdEvdata s
  | .rdMonState => Sys2Proof.Machine.execRdMonState s

end Sys2Proof.Machine
end

