-- ==== Sys2Proof/Machine/Fetch.lean ====
section
/-!
DEFINITION. What a tick runs: the host ports of the tick, decoded (spec/10_state.md R21, R22,
spec/20_memory.md R51). The block fetches no instructions (R61); an operation reaches it as an access.
-/

namespace Sys2Proof.Machine

/-- What the host ports say in a tick. -/
inductive Fetched where
  /-- `rst` = 1, with the access of the tick if there is one. -/
  | reset (access : Option BusAccess)
  /-- No access. -/
  | silent
  /-- One access, decoded. -/
  | run (i : Instr)
  deriving DecidableEq, Repr

/-- The host ports of a tick, decoded. -/
def fetchTick (h : HostTick) : Fetched :=
  if h.rst then .reset h.access
  else
    match h.access with
    | none => .silent
    | some a => .run (decodeAccess a)

/-- The host ports of the coming tick; the host is silent where `hostIn` is used up
(notes/assumptions/5.md). -/
def State.fetch (s : State) : Fetched :=
  match s.hostIn with
  | [] => .silent
  | h :: _ => fetchTick h

/-- `s` with the access `a` as what the host does in the coming tick. -/
def State.withAccess (s : State) (a : BusAccess) : State :=
  { s with hostIn := ⟨false, some a⟩ :: s.hostIn.tail }

/-- `s` with the host word as what the host does in the coming tick: the access, or for a command word
its low half in CMD_LO and the CMD_HI write of its high half (R70). -/
def State.withHostWord (s : State) : HostWord → State
  | .access a => s.withAccess a
  | .command cw =>
    (s.storeCmdLo (cw.extractLsb' 0 32)).withAccess (writeAccess .cmdHi (cw.extractLsb' 32 32))

end Sys2Proof.Machine
end

