-- ==== Sys2Proof/Machine/Step.lean ====
section
/-!
DEFINITION. One step of the machine: one tick of the block (spec/10_state.md R22).
-/

namespace Sys2Proof.Machine

/-- One tick: reset, a tick without an access, or the tick of the access that the host makes. A
configuration that breaks R8 is refused. -/
def step (s : State) : Host.Outcome State Fault Refusal :=
  if Config.hw.wf then
    match s.fetch with
    | .reset a => .next (s.resetTick a)
    | .silent => .next (s.silentTick Config.hw)
    | .run i => exec i s
  else .refused .badConfiguration

/-- `s` with the opcode-table word (`nbits`, `w`) placed so that the next step runs it. -/
def State.withFetchWord (s : State) (nbits w : Nat) : State := s.withHostWord (tableWord nbits w)

end Sys2Proof.Machine
end

