-- ==== Sys2Proof/Machine/Driver.lean ====
section
/-!
DEFINITION. The host side of the block: assembler lines and pseudo-instructions (spec/30_encoding.md
R89, R90), the source API as sequences of accesses (spec/40_commands.md R115 to R118), and the text
rendering of events (spec/42_receive.md R188). These say what a host program does; the block's step
does not depend on them.
-/

namespace Sys2Proof.Machine

/-- What a host program does next. A wait and a drain depend on what their reads return. -/
inductive HostOp where
  /-- One access. -/
  | access (a : BusAccess)
  /-- WAITIDLE: read STATUS, one read per tick, until BUSY is 0 (R90). -/
  | waitIdle
  /-- DRAIN: read EVCOUNT, then EVDATA once per counted event (R90). -/
  | drain
  deriving DecidableEq, Repr

/-- A line of host assembly (R89), or a pseudo-instruction (R90). Absent operands are `none`. -/
inductive AsmLine where
  | nop
  | init (pin : Byte)
  | send (dev c1 : Byte) (c2 c3 : Option Byte)
  | monitor (mode : BitVec 2) (mi : Option Bool) (timeout : Option Word) (rate : Option (BitVec 24))
  | wr (r : Reg) (v : Word)
  | rd (r : Reg)
  | waitIdle
  | sendW (dev c1 : Byte) (c2 c3 : Option Byte)
  | send2 (dev c1 : Byte) (c2 c3 : Option Byte)
  | monitorW (mode : BitVec 2) (mi : Option Bool) (timeout : Option Word)
      (rate : Option (BitVec 24))
  | drain
  | readPin
  deriving DecidableEq, Repr

/-- A command is written to CMD_LO, then to CMD_HI in the next tick (R70, R89). -/
def issueOps (cw : CommandWord) : List HostOp :=
  [.access (writeAccess .cmdLo (cw.extractLsb' 0 32)),
   .access (writeAccess .cmdHi (cw.extractLsb' 32 32))]

/-- The SEND word of an assembler line: the present-bits say which optional bytes are given (R89). -/
def asmSend (dev c1 : Byte) (c2 c3 : Option Byte) : CommandWord :=
  encodeSend c2.isSome c3.isSome dev c1 (c2.getD 0) (c3.getD 0)

/-- The MONITOR word of an assembler line, with the driver's defaults for absent operands (R89). A default
too large for its field, which R8 does not exclude, is cut to the low 32 or 24 bits (DESIGN CHOICE;
notes/assumptions/20.md). -/
def asmMonitor (c : Config) (mode : BitVec 2) (mi : Option Bool) (timeout : Option Word)
    (rate : Option (BitVec 24)) : CommandWord :=
  encodeMonitor mode (mi.getD false) (timeout.getD (BitVec.ofNat 32 c.monTimeoutDefault))
    (rate.getD (BitVec.ofNat 24 c.diagRateDefault))

/-- What an assembler line stands for (R89, R90). -/
def AsmLine.ops (c : Config) : AsmLine → List HostOp
  | .nop => issueOps encodeNop
  | .init pin => issueOps (encodeInit pin)
  | .send dev c1 c2 c3 => issueOps (asmSend dev c1 c2 c3)
  | .monitor mode mi timeout rate => issueOps (asmMonitor c mode mi timeout rate)
  | .wr r v => [.access (writeAccess r v)]
  | .rd r => [.access (readAccess r)]
  | .waitIdle => [.waitIdle]
  | .sendW dev c1 c2 c3 => issueOps (asmSend dev c1 c2 c3) ++ [.waitIdle]
  | .send2 dev c1 c2 c3 =>
    issueOps (asmSend dev c1 c2 c3) ++ [.waitIdle] ++
      (issueOps (asmSend dev c1 c2 c3) ++ [.waitIdle])
  | .monitorW mode mi timeout rate => issueOps (asmMonitor c mode mi timeout rate) ++ [.waitIdle]
  | .drain => [.drain]
  | .readPin => [.access (readAccess .pin)]

/-- The access a host program makes in the coming tick. -/
def nextAccess : List HostOp → Option BusAccess
  | [] => none
  | .access a :: _ => some a
  | .waitIdle :: _ => some (readAccess .status)
  | .drain :: _ => some (readAccess .evcount)

/-- What is left of a host program after a tick that returned `rd` (R90). -/
def advanceOps (rd : Option Word) : List HostOp → List HostOp
  | [] => []
  | .access _ :: rest => rest
  | .waitIdle :: rest =>
    if (rd.getD 1).getLsbD 0 then .waitIdle :: rest else rest
  | .drain :: rest =>
    List.replicate (rd.getD 0).toNat (.access (readAccess .evdata)) ++ rest

/-- One tick of the block under a host program, with `rst` = 0. -/
def driverStep (ops : List HostOp) (s : State) : Host.Outcome (List HostOp × State) Fault Refusal :=
  match step { s with hostIn := ⟨false, nextAccess ops⟩ :: s.hostIn.tail } with
  | .next t => .next (advanceOps t.hrdata ops, t)
  | .fault r => .fault r
  | .refused r => .refused r

/-! ### The source API -/

/-- The byte that the driver passes for an argument: its low 8 bits (R116). An argument outside 0 to 255
is truncated, where 93 I13 has the host driver refuse it (DESIGN CHOICE; notes/assumptions/18.md). -/
def argByte (x : Int) : Byte := BitVec.ofInt 8 x

/-- An optional argument: absent or negative means no byte, and one above 255 is truncated (R116; DESIGN
CHOICE, notes/assumptions/18.md). -/
def optionalByte : Option Int → Option Byte
  | none => none
  | some x => if x < 0 then none else some (argByte x)

/-- `init(pinId)` (R115). -/
def apiInit (pin : Byte) : List HostOp := issueOps (encodeInit pin)

/-- `sendCommand(deviceId, commandId1, commandId2, commandId3)` (R116). -/
def apiSendCommand (dev c1 : Int) (c2 c3 : Option Int) : List HostOp :=
  [.waitIdle] ++
    issueOps (asmSend (argByte dev) (argByte c1) (optionalByte c2) (optionalByte c3)) ++ [.waitIdle]

/-- `pin()` (R117). -/
def apiPin : List HostOp := [.access (readAccess .pin)]

/-- `inputMonitor(mode, measureIdleInstead, timeoutMicros, diagnosticRate)` up to the drain; available
only where HAS_MONITOR holds (R118). -/
def apiInputMonitor (c : Config) (mode : BitVec 2) (mi : Option Bool) (timeout : Option Word)
    (rate : Option (BitVec 24)) : Option (List HostOp) :=
  if c.hasMonitor then
    some ([.waitIdle] ++ issueOps (asmMonitor c mode mi timeout rate) ++ [.waitIdle, .drain])
  else none

/-! ### Rendering -/

/-- The event that an EVDATA word carries, or none where VALID is 0 or KIND is never produced (R86,
R87). -/
def eventOfWord (w : Word) : Option Event :=
  if w.getLsbD 31 then
    match (w.extractLsb' 28 3).toNat with
    | 1 => some .frame
    | 2 => some (.bit (w.getLsbD 0))
    | 3 => some (.byte (w.extractLsb' 0 8))
    | 4 => some (.raw (w.extractLsb' 0 16))
    | 5 => some .lineBreak
    | _ => none
  else none

/-- A lowercase hexadecimal digit. -/
def hexDigit (x : BitVec 4) : Char :=
  if x.toNat < 10 then Char.ofNat (48 + x.toNat) else Char.ofNat (87 + x.toNat)

/-- The text of one event (R188). -/
def Event.render : Event → String
  | .frame => "S:"
  | .bit b => if b then "1" else "0"
  | .byte v => String.ofList [hexDigit (v.extractLsb' 4 4), hexDigit (v.extractLsb' 0 4), ',']
  | .raw d => toString d.toNat ++ ","
  | .lineBreak => String.ofList [Char.ofNat 10]

/-- The text of a capture: its events in order (R188). -/
def renderCapture (events : List Event) : String := String.join (events.map Event.render)

end Sys2Proof.Machine
end

