-- ==== Sys2Proof/Machine/Platform.lean ====
section
/-!
DEFINITION. Several instances of the block on one platform (spec/60_exceptions.md R213): each has its own
state, register window and line, and they share nothing. The wire is outside the block (R6); the one
given here is the test-bench wire of spec/95_test_vectors.md V-2I (notes/assumptions/19.md).
-/

namespace Sys2Proof.Machine

/-- One instance: its register window (SLINK_BASE = 32 · `window`) and its state, which names its line. -/
structure Instance where
  window : Nat
  block : State
  deriving DecidableEq, Repr

/-- An instance after reset, at a window and on a line of its own (R46, R213). -/
def Instance.reset (window lineId : Nat) : Instance where
  window := window
  block := { State.reset with lineId := lineId }

/-- One tick of every instance, each on its own (R213). -/
def stepInstances : List Instance → Host.Outcome (List Instance) Fault Refusal
  | [] => .next []
  | i :: rest =>
    match step i.block with
    | .next t =>
      match stepInstances rest with
      | .next ts => .next ({ i with block := t } :: ts)
      | .fault r => .fault r
      | .refused r => .refused r
    | .fault r => .fault r
    | .refused r => .refused r

/-- A platform access in the coming tick: it reaches the instance whose window holds the address, and no
other (R51, R213). -/
def routeAccess (addr : Nat) (hwrite : Bool) (hwdata : Word) (p : List Instance) : List Instance :=
  p.map fun i =>
    match platformAddress i.window addr with
    | some haddr => { i with block := i.block.withAccess ⟨haddr, hwrite, hwdata⟩ }
    | none => i

/-- Whether an instance pulls a line low in this tick: it drives it, at the low level (R20, R22). -/
def Instance.pullsLow (lineId : Nat) (i : Instance) : Bool :=
  decide (i.block.lineId = lineId) && i.block.lineOe && !i.block.lineO

/-- The level of the wire `lineId` in this tick: low exactly where some block, or the rest of the world
(`env` = low), pulls it low (V-2I). -/
def wireLevel (env : Level) (lineId : Nat) (p : List Instance) : Level :=
  env && !p.any (Instance.pullsLow lineId)

/-- Every instance sees the wire it is on, and of the others nothing else (R213): the level becomes its
sample of the coming tick. -/
def onWires (env : Nat → Level) (p : List Instance) : List Instance :=
  p.map fun i =>
    { i with block := { i.block with
        lineIn := wireLevel (env i.block.lineId) i.block.lineId p :: i.block.lineIn.tail } }

end Sys2Proof.Machine
end

