-- ==== Sys2Proof/Safety.lean ====
section
/-!
DEFINITION. The terms that statements about runs use: what the host and the line do over a row of
ticks, what counts as a safe run, and the invariants of the block's state.
-/

namespace Sys2Proof.Machine

/-! ### Runs -/

/-- `k` ticks from `s` lead to `t`. -/
def RunsTo (k : Nat) (s t : State) : Prop := Sys2Proof.core.run k s = .next t

/-- A safe run: `k` ticks without a fault and without a refusal. -/
def SafeRun (k : Nat) (s : State) : Prop := ∃ t, RunsTo k s t

/-- `rst` = 0 in each of the next `n` ticks; the host accesses what it likes. -/
def NoReset (n : Nat) (s : State) : Prop := ∀ h ∈ s.hostIn.take n, h.rst = false

/-- The next samples of `line_i` are `ls`. -/
def LineReads (ls : List Level) (s : State) : Prop := s.lineIn.take ls.length = ls

/-- The coming tick is no reset tick. -/
def State.NotReset (s : State) : Prop := ∀ a, s.fetch ≠ .reset a

/-- The words that `n` EVDATA reads in successive ticks return. -/
def readEvents : Nat → State → List Word
  | 0, _ => []
  | n + 1, s =>
    match exec .rdEvdata s with
    | .next t => t.hrdata.getD 0 :: readEvents n t
    | _ => []

/-! ### Outcomes of a command issue -/

/-- The state after a tick that rejects a command whose high half is `v`: the tick without an access,
and the three fields a rejection writes (R200, R203). -/
def State.rejected (v : Word) (cause : Cause) (s : State) : State :=
  { s.silentTick Config.hw with cmdHi := v, rej := true, rcause := cause }

/-- The state after a tick in phase IDLE that accepts a command whose high half is `v`, before the
operation's own effect (R100, R120). -/
def State.accepted (v : Word) (s : State) : State :=
  { s.endTick none with cmdHi := v, rej := false, rcause := .none }

/-! ### Measurement results and events -/

/-- `t` is back at the loop head of the monitor, with the result `d` handled by the decoder as it stood
in `s` (R166). -/
def State.ReturnsResult (d : Nat) (s t : State) : Prop :=
  t.phase = .mon ∧ t.mp = .top ∧ t.mc = 0 ∧
    t.acc = (s.handle Config.hw d).acc ∧ t.bitCnt = (s.handle Config.hw d).bitCnt ∧
    t.gapNoted = (s.handle Config.hw d).gapNoted ∧ t.evbuf = (s.handle Config.hw d).evbuf ∧
    t.evOvf = (s.handle Config.hw d).evOvf

/-- `s` after the events `es` were offered to the buffer in order: it keeps those that fit into EVCAP =
4096 places, and a drop is reported (R185, R186). -/
def State.offered (es : List Event) (s : State) : State :=
  { s with
    evbuf := s.evbuf ++ es.take (4096 - s.evbuf.length)
    evOvf := s.evOvf || decide (4096 - s.evbuf.length < es.length) }

/-! ### Invariants -/

/-- The phases in which the block drives the wire (R130 steps 3 to 6). -/
def Phase.driving : Phase → Bool
  | .syncLo => true
  | .syncHi => true
  | .bitLo => true
  | .bitHi => true
  | _ => false

/-- The phases in which the driven level is low (R33: "except during a mark"). -/
def Phase.marking : Phase → Bool
  | .syncLo => true
  | .bitLo => true
  | _ => false

/-- The phases of a SEND, in which the frame latches are in use. -/
def Phase.sending : Phase → Bool
  | .idle => false
  | .mon => false
  | _ => true

/-- `dir` is 1 exactly while a frame is driven, `lineOut` is 0 exactly during a mark (R33, R119, R189). -/
def State.LineInv (s : State) : Prop :=
  s.dir = s.phase.driving ∧ s.lineOut = !s.phase.marking

/-- `rej` says whether a cause is recorded (R35, R200). -/
def State.ReportInv (s : State) : Prop := s.rej = decide (s.rcause ≠ .none)

/-- An operation runs only on a bound block (R201). -/
def State.BoundInv (s : State) : Prop := s.phase ≠ .idle → s.bound = true

/-- The event buffer holds at most EVCAP events; it is not readable during a capture; before the first
capture ends it is empty (R32, R104, R167, R185). -/
def State.BufferInv (c : Config) (s : State) : Prop :=
  s.evbuf.length ≤ c.evCap ∧ (s.phase = .mon → s.evRdy = false) ∧
    (s.phase ≠ .mon → s.evRdy = false → s.evbuf = [] ∧ s.evOvf = false)

/-- The registers lie within their widths, and the counters of a wait within the wait (R25 to R29, R34). -/
def State.CounterInv (c : Config) (s : State) : Prop :=
  s.el ≤ 2 ^ c.tw - 1 ∧ s.lrLastLow ≤ 2 ^ c.tw - 1 ∧ s.timeout < 2 ^ c.tw ∧
    s.pin.toNat < 2 ^ c.pinw ∧ (s.phase = .lr → s.poll < c.tPoll ∧ s.lrLastLow ≤ s.el) ∧
    (s.phase = .pad → s.poll < c.tPoll)

/-- `seg` lies within the current segment (R134 to R138). -/
def State.SegmentInv (c : Config) (s : State) : Prop :=
  match s.phase with
  | .syncLo => s.seg < c.tSync
  | .syncHi => s.seg < c.tDelim
  | .bitLo => s.seg < markLen c s.frameBit
  | .bitHi => s.seg < c.tDelim
  | _ => True

/-- While a SEND runs there are 2 to 4 frame bytes, and the one being sent is one of them (R25, R139). -/
def State.FrameInv (s : State) : Prop :=
  (s.phase.sending = true → 2 ≤ s.nbytes.toNat ∧ s.nbytes.toNat ≤ 4) ∧
    (s.phase = .bitLo ∨ s.phase = .bitHi → s.byteIdx.toNat < s.nbytes.toNat)

/-- Outside MON no measurement is in progress; within one, 1 to T_MEAS_CAP − 1 samples are counted
(R163 to R166). -/
def State.MeasureInv (c : Config) (s : State) : Prop :=
  (s.phase ≠ .mon → s.mp = .top) ∧ (s.mp = .top → s.mc = 0) ∧
    (s.mp ≠ .top → 0 < s.mc ∧ s.mc < c.tMeasCap)

/-- The mode is legal, the undecided bits of `acc` are 0, every RAW payload is a measurable duration
(R79, R87, R176). -/
def State.DecoderInv (c : Config) (s : State) : Prop :=
  s.mode ≠ 3#2 ∧ s.acc &&& (0xFF#8 >>> s.bitCnt.toNat) = 0#8 ∧
    ∀ d, Event.raw d ∈ s.evbuf → 0 < d.toNat ∧ d.toNat < c.tMeasCap

/-- The block's invariant: all of the above. -/
structure State.Inv (c : Config) (s : State) : Prop where
  line : s.LineInv
  report : s.ReportInv
  bound : s.BoundInv
  buffer : s.BufferInv c
  counter : s.CounterInv c
  segment : s.SegmentInv c
  frame : s.FrameInv
  measure : s.MeasureInv c
  decoder : s.DecoderInv c

end Sys2Proof.Machine
end

