-- ==== Sys2Proof/Certificates/Slice0/Obligations.lean ====
section
/-!
DEFINITION. The statements for the provers. Each docstring names the rule of spec/ it formalises.
`s.silentTick Config.hw` is the tick of `s` without a host access; `s.endTick none` is `s` with the
tick's inputs consumed and nothing else changed.
-/

open Sys2Proof Sys2Proof.Machine

/-! ### Reset -/

/-- R46: the reset state is the table, field by field. -/
def Obligations.ResetStateMatchesTable : Prop :=
  State.reset.phase = .idle ∧ State.reset.el = 0 ∧ State.reset.poll = 0 ∧
  State.reset.lrLastLow = 0 ∧ State.reset.seg = 0 ∧ State.reset.bitPos = 0 ∧
  State.reset.byteIdx = 0 ∧ State.reset.fb = ⟨0, 0, 0, 0⟩ ∧ State.reset.nbytes = 0 ∧
  State.reset.mode = 0 ∧ State.reset.mi = false ∧ State.reset.timeout = 0 ∧
  State.reset.mp = .top ∧ State.reset.mc = 0 ∧ State.reset.acc = 0 ∧ State.reset.bitCnt = 0 ∧
  State.reset.gapNoted = false ∧ State.reset.evbuf = [] ∧ State.reset.evRdy = false ∧
  State.reset.evOvf = false ∧ State.reset.dir = false ∧ State.reset.lineOut = true ∧
  State.reset.bound = false ∧ State.reset.pin = 0 ∧ State.reset.rej = false ∧
  State.reset.rcause = .none ∧ State.reset.lrto = false ∧ State.reset.padcut = false ∧
  State.reset.diagRate = 0 ∧ State.reset.cmdLo = 0 ∧ State.reset.cmdHi = 0

/-- 10 R38, 70 R231: what the eight registers read after reset, at either level of the line. -/
def Obligations.ResetRegisterReads : Prop :=
  (∀ line, State.reset.readData line .status = if line then 0x00010004 else 0x00000004) ∧
  ∀ line r, r ≠ .status → State.reset.readData line r = 0

/-- 70 R230, R233: a tick with `rst` = 1 leads to the reset state whatever the state was; a read in it
returns 0 and a write changes nothing. The model's own fields take the next inputs
(notes/assumptions/4.md to 6.md). -/
def Obligations.ResetTickForcesReset : Prop :=
  ∀ (s : State) (a : Option BusAccess) (rest : List HostTick),
    s.hostIn = ⟨true, a⟩ :: rest →
    ∃ rd, step s = .next { State.reset with
        lineId := s.lineId, tick := s.tick + 1, lineIn := s.lineIn.tail, hostIn := rest
        hrdata := rd } ∧
      (∀ b, a = some b → b.hwrite = false → rd = some 0)

/-! ### Step -/

/-- 10 R22, 20 R51: a tick with an access runs the decoded access, from the same state; a tick without
one is the silent tick. `exec` itself takes the tick: it consumes the inputs. The third clause, that the
host is silent where `hostIn` is empty, is the model's choice (DESIGN CHOICE; notes/assumptions/5.md). -/
def Obligations.StepRunsDecodedAccess : Prop :=
  (∀ (s : State) (a : BusAccess) (rest : List HostTick),
    s.hostIn = ⟨false, some a⟩ :: rest → step s = exec (decodeAccess a) s) ∧
  (∀ (s : State) (rest : List HostTick),
    s.hostIn = ⟨false, none⟩ :: rest → step s = .next (s.silentTick Config.hw)) ∧
  (∀ s : State, s.hostIn = [] → step s = .next (s.silentTick Config.hw))

/-- 40 R100, 30 R70: where {hwdata, CMD_LO} spells a command, the CMD_HI write runs that command. -/
def Obligations.CmdHiWriteRunsCommandWord : Prop :=
  ∀ (s : State) (v : Word) (i : Instr),
    decodeCommand Config.hw (commandWord v s.cmdLo) = .ok i → exec (.wrCmdHi v) s = exec i s

/-- 93, Treatments ("no behaviour of this block faults or hangs"): every step answers a next state. That
it counts one tick, consumes one tick's inputs and stays on its line is how the model carries them
(DESIGN CHOICE; notes/assumptions/4.md and 5.md). -/
def Obligations.EveryStepAnswersNext : Prop :=
  ∀ s : State, ∃ t, step s = .next t ∧ t.tick = s.tick + 1 ∧ t.lineIn = s.lineIn.tail ∧
    t.hostIn = s.hostIn.tail ∧ t.lineId = s.lineId

/-! ### Encodings -/

/-- 30 R72 to R79, 20 R51: decoding the encoding of any well-formed instruction gives it back, in every
configuration. -/
def Obligations.DecodeEncodeAgree : Prop :=
  ∀ (c : Config) (i : Instr), i.wf c = true → decode c (encode i) = .ok i

/-- 30 R72 to R79: a command word that decodes is the encoding of what it decodes to, and that
instruction is well formed. So no two words spell one command. -/
def Obligations.EncodeDecodeAgree : Prop :=
  ∀ (c : Config) (cw : CommandWord) (i : Instr),
    decodeCommand c cw = .ok i → encode i = .command cw ∧ i.wf c = true

/-- 20 R51, R52, 10 R38: `haddr[4:2]` alone selects the register, each of its eight values another one,
by R51's numbers; a write or a read there is the write or the read of that register; and R38's offsets. -/
def Obligations.AddressSelectsRegister : Prop :=
  (∀ h h' : BitVec 5, decodeReg h = decodeReg h' ↔ h.extractLsb' 2 3 = h'.extractLsb' 2 3) ∧
  (∀ h : BitVec 5, decodeReg h = match h.toNat / 4 with
    | 0 => .cmdLo | 1 => .cmdHi | 2 => .status | 3 => .pin
    | 4 => .diagRate | 5 => .evcount | 6 => .evdata | _ => .monState) ∧
  (∀ (h : BitVec 5) (v : Word), decodeAccess ⟨h, true, v⟩ = match h.toNat / 4 with
    | 0 => .wrCmdLo v | 1 => .wrCmdHi v | 2 => .wrStatus v | 3 => .wrPin v
    | 4 => .wrDiagRate v | 5 => .wrEvcount v | 6 => .wrEvdata v | _ => .wrMonState v) ∧
  (∀ (h : BitVec 5) (v : Word), decodeAccess ⟨h, false, v⟩ = match h.toNat / 4 with
    | 0 => .rdCmdLo | 1 => .rdCmdHi | 2 => .rdStatus | 3 => .rdPin
    | 4 => .rdDiagRate | 5 => .rdEvcount | 6 => .rdEvdata | _ => .rdMonState) ∧
  [Reg.cmdLo, .cmdHi, .status, .pin, .diagRate, .evcount, .evdata, .monState].map Reg.offset =
    [0x00, 0x04, 0x08, 0x0C, 0x10, 0x14, 0x18, 0x1C]

/-- R92: the ten worked encodings, as the two writes each assembles to. -/
def Obligations.WorkedEncodings : Prop :=
  let pair (lo hi : Word) : List HostOp :=
    [.access (writeAccess .cmdLo lo), .access (writeAccess .cmdHi hi)]
  AsmLine.ops Config.hw .nop = pair 0x00000000 0x00000000 ∧
  AsmLine.ops Config.hw (.init 5) = pair 0x00000501 0x00000000 ∧
  AsmLine.ops Config.hw (.send 0xC0 0x2E none none) = pair 0x2EC00002 0x00000000 ∧
  AsmLine.ops Config.hw (.send 0xC0 0x2E (some 0x15) none) = pair 0x2EC00012 0x00000015 ∧
  AsmLine.ops Config.hw (.send 0x10 0x2E none (some 0x99)) = pair 0x2E100022 0x00009900 ∧
  AsmLine.ops Config.hw (.send 0xC0 0x2E (some 0xFF) (some 0xFF)) = pair 0x2EC00032 0x0000FFFF ∧
  AsmLine.ops Config.hw (.monitor 2 none none none) = pair 0x98968023 0x01C20000 ∧
  AsmLine.ops Config.hw (.monitor 2 (some false) (some 40000) (some 115200)) =
    pair 0x009C4023 0x01C20000 ∧
  AsmLine.ops Config.hw (.monitor 1 (some true) (some 40000) (some 115200)) =
    pair 0x009C4053 0x01C20000 ∧
  AsmLine.ops Config.hw (.monitor 0 (some false) (some 0) (some 0)) = pair 0x00000003 0x00000000

/-- 30 R72 to R75, 20 R51: words written out from the spec's formats decode to what they spell. -/
def Obligations.SpecWordsDecode : Prop :=
  decodeCommand Config.hw 0x0000000000000000 = .ok .nop ∧
  decodeCommand Config.hw 0x0000000000000501 = .ok (.init 5) ∧
  decodeCommand Config.hw 0x000000AB2EC00002 = .ok (.send false false 0xC0 0x2E 0xAB 0x00) ∧
  decodeCommand Config.hw 0x000099002E100022 = .ok (.send false true 0x10 0x2E 0x00 0x99) ∧
  decodeCommand Config.hw 0x01C20000009C4053 = .ok (.monitor 1 true 40000 115200) ∧
  decodeAccess ⟨0x18, false, 0⟩ = .rdEvdata ∧ decodeAccess ⟨0x07, true, 9⟩ = .wrCmdHi 9

/-- 30 R86, R87: the word of every event has VALID = 1, its reserved bits 0, and R87's KIND number and
PAYLOAD; and it gives the event back. -/
def Obligations.EventWordsRoundTrip : Prop :=
  ∀ e : Event, eventOfWord e.word = some e ∧ e.word.getLsbD 31 = true ∧
    e.word.extractLsb' 16 12 = 0 ∧
    e.word.extractLsb' 28 3 = (match e with
      | .frame => 1 | .bit _ => 2 | .byte _ => 3 | .raw _ => 4 | .lineBreak => 5) ∧
    e.word.extractLsb' 0 16 = (match e with
      | .frame => 0 | .bit b => if b then 1 else 0 | .byte v => v.setWidth 16 | .raw d => d
      | .lineBreak => 0)

/-! ### Rejection -/

/-- 60 R201, 30 R76 to R79: on an idle block CheckCommand names the decoder's reason, and answers NONE
or UNBOUND exactly on the words that spell a command. -/
def Obligations.CheckCommandNamesDecodeFailure : Prop :=
  ∀ (c : Config) (cw : CommandWord) (s : State), s.phase = .idle →
    (checkCommand c cw s = .badOp ↔ decodeCommand c cw = .error .badOp) ∧
    (checkCommand c cw s = .rsvdBits ↔ decodeCommand c cw = .error .rsvdBits) ∧
    (checkCommand c cw s = .badMode ↔ decodeCommand c cw = .error .badMode) ∧
    ((checkCommand c cw s = .none ∨ checkCommand c cw s = .unbound) ↔
      ∃ i, decodeCommand c cw = .ok i)

/-- R203 (with R200): a rejected CMD_HI write changes what the tick changes without it, and `cmdHi`,
`rej` and `rcause`, and no other field. -/
def Obligations.RejectedWriteChangesOnlyReport : Prop :=
  ∀ (s : State) (v : Word),
    checkCommand Config.hw (commandWord v s.cmdLo) s ≠ .none →
    exec (.wrCmdHi v) s =
      .next (s.rejected v (checkCommand Config.hw (commandWord v s.cmdLo) s))

/-- R202 (with R201): the recorded cause is the first that applies, in the order BUSY, BAD_OP,
RSVD_BITS, BAD_MODE, UNBOUND. The reserved bits are given as the masks of the formats R72 to R75. -/
def Obligations.RejectionPriority : Prop :=
  ∀ (s : State) (v : Word), ∃ t, exec (.wrCmdHi v) s = .next t ∧
    let cw : CommandWord := commandWord v s.cmdLo
    let op := cw &&& 0xF#64
    t.rcause =
      (if s.phase ≠ .idle then .busy
      else if 4#64 ≤ op then .badOp
      else if (op = 0 ∧ cw &&& 0xFFFFFFFFFFFFFFF0#64 ≠ 0) ∨ (op = 1 ∧ cw &&& 0xFFFFFFFFFFFF00F0#64 ≠ 0) ∨
        (op = 2 ∧ cw &&& 0xFFFF00000000FFC0#64 ≠ 0) ∨ (op = 3 ∧ cw &&& 0x80#64 ≠ 0) then .rsvdBits
      else if op = 3 ∧ cw &&& 0x30#64 = 0x30#64 then .badMode
      else if (op = 2 ∨ op = 3) ∧ s.bound = false then .unbound
      else .none) ∧
    t.rej = decide (t.rcause ≠ .none)

/-- 60 R200, 10 R47: the report stays until the next CMD_HI write or reset. -/
def Obligations.ReportStaysUntilNextIssue : Prop :=
  ∀ s t : State, s.NotReset → (∀ v, s.fetch ≠ .run (.wrCmdHi v)) → step s = .next t →
    t.rej = s.rej ∧ t.rcause = s.rcause

/-- 60 R201, R203: when the command words are rejected: all four while an operation runs, SEND and
MONITOR on an idle block that is not bound, and a MONITOR of mode 3 on an idle block. -/
def Obligations.CommandWordsRejected : Prop :=
  (∀ s : State, s.phase ≠ .idle → exec .nop s = .next (s.rejected 0 .busy)) ∧
  (∀ (s : State) (p : Byte), s.phase ≠ .idle → exec (.init p) s = .next (s.rejected 0 .busy)) ∧
  (∀ (s : State) (p2 p3 : Bool) (dev c1 c2 c3 : Byte),
    (s.phase ≠ .idle →
      exec (.send p2 p3 dev c1 c2 c3) s = .next (s.rejected (0#16 ++ c3 ++ c2) .busy)) ∧
    (s.phase = .idle → s.bound = false →
      exec (.send p2 p3 dev c1 c2 c3) s = .next (s.rejected (0#16 ++ c3 ++ c2) .unbound))) ∧
  (∀ (s : State) (m : BitVec 2) (mi : Bool) (t : Word) (r : BitVec 24),
    (s.phase ≠ .idle →
      exec (.monitor m mi t r) s = .next (s.rejected (r ++ t.extractLsb' 24 8) .busy)) ∧
    (s.phase = .idle → m = 3 →
      exec (.monitor m mi t r) s = .next (s.rejected (r ++ t.extractLsb' 24 8) .badMode)) ∧
    (s.phase = .idle → m ≠ 3 → s.bound = false →
      exec (.monitor m mi t r) s = .next (s.rejected (r ++ t.extractLsb' 24 8) .unbound)))

/-! ### Commands -/

/-- 40 R101: on an idle block a NOP clears the report and does nothing else. -/
def Obligations.NopClearsReport : Prop :=
  ∀ s : State, s.phase = .idle → exec .nop s = .next (s.accepted 0)

/-- 40 R102: on an idle block INIT binds the pin, sets the line to input, and does nothing else. -/
def Obligations.InitBindsPin : Prop :=
  ∀ (s : State) (p : Byte), s.phase = .idle →
    exec (.init p) s = .next { s.accepted 0 with pin := p, bound := true, dir := false }

/-- R235: on an idle block an INIT after an INIT leaves what the later one alone would leave; the same
pin again changes nothing more. -/
def Obligations.InitIdempotent : Prop :=
  ∀ (s : State) (p q : Byte), s.phase = .idle →
    ∃ t u, exec (.init p) s = .next t ∧ exec (.init q) t = .next u ∧
      t.pin = p ∧ t.bound = true ∧ t.dir = false ∧
      t = { s with
        pin := p, bound := true, dir := false, cmdHi := 0, rej := false, rcause := .none
        tick := s.tick + 1, lineIn := s.lineIn.tail, hostIn := s.hostIn.tail, hrdata := none } ∧
      u = { t with
        pin := q, tick := t.tick + 1, lineIn := t.lineIn.tail, hostIn := t.hostIn.tail }

/-- 40 R103: on an idle, bound block SEND latches the frame bytes whose present-bits are set, in order,
and enters the line-ready check. -/
def Obligations.SendLatchesFrame : Prop :=
  ∀ (s : State) (p2 p3 : Bool) (dev c1 c2 c3 : Byte), s.phase = .idle → s.bound = true →
    exec (.send p2 p3 dev c1 c2 c3) s = .next { s.accepted (0#16 ++ c3 ++ c2) with
      fb := match p2, p3 with
        | false, false => { s.fb with b0 := dev, b1 := c1 }
        | true, false => { s.fb with b0 := dev, b1 := c1, b2 := c2 }
        | false, true => { s.fb with b0 := dev, b1 := c1, b2 := c3 }
        | true, true => ⟨dev, c1, c2, c3⟩
      nbytes := match p2, p3 with
        | false, false => 2
        | true, true => 4
        | _, _ => 3
      lrto := false, padcut := false, dir := false, el := 0, poll := 0, lrLastLow := 0
      phase := .lr }

/-- 40 R104: on an idle, bound block a MONITOR of mode 0, 1 or 2 starts a capture; unread events are
discarded. -/
def Obligations.MonitorStartsCapture : Prop :=
  ∀ (s : State) (m : BitVec 2) (mi : Bool) (t : Word) (r : BitVec 24),
    s.phase = .idle → s.bound = true → m ≠ 3 →
    exec (.monitor m mi t r) s = .next { s.accepted (r ++ t.extractLsb' 24 8) with
      mode := m, mi := mi, timeout := t.toNat, diagRate := r
      evbuf := [], evRdy := false, evOvf := false, acc := 0, bitCnt := 0, gapNoted := false
      mp := .top, mc := 0, el := 0, dir := false, phase := .mon }

/-- 40 R100: on an idle, bound block a CMD_HI write of a word that spells a command is accepted: it
stores, clears the report, and starts the operation that OP selects. -/
def Obligations.CmdHiWriteAccepted : Prop :=
  ∀ (s : State) (v : Word) (i : Instr), s.phase = .idle → s.bound = true →
    decodeCommand Config.hw (commandWord v s.cmdLo) = .ok i →
    ∃ t, exec (.wrCmdHi v) s = .next t ∧ t.cmdHi = v ∧ t.cmdLo = s.cmdLo ∧ t.rej = false ∧
      t.rcause = .none ∧ t.bound = true ∧
      t.phase = (if commandWord v s.cmdLo &&& 0xF#64 = 2 then .lr
        else if commandWord v s.cmdLo &&& 0xF#64 = 3 then .mon else .idle)

/-! ### Register accesses -/

/-- R105: in any phase a CMD_LO write stores, and the tick is otherwise the one without it. -/
def Obligations.CmdLoWriteStores : Prop :=
  ∀ (s : State) (v : Word),
    exec (.wrCmdLo v) s = .next { s.silentTick Config.hw with cmdLo := v }

/-- R114: a write to a read-only register leaves the tick as it is without the write. -/
def Obligations.ReadOnlyWritesIgnored : Prop :=
  ∀ (s : State) (v : Word),
    exec (.wrStatus v) s = .next (s.silentTick Config.hw) ∧
    exec (.wrPin v) s = .next (s.silentTick Config.hw) ∧
    exec (.wrDiagRate v) s = .next (s.silentTick Config.hw) ∧
    exec (.wrEvcount v) s = .next (s.silentTick Config.hw) ∧
    exec (.wrEvdata v) s = .next (s.silentTick Config.hw) ∧
    exec (.wrMonState v) s = .next (s.silentTick Config.hw)

/-- R106, R107, R109, R110, R111: what these reads return; the tick is otherwise the one without the
read. -/
def Obligations.PlainReadsReturnFields : Prop :=
  ∀ s : State,
    exec .rdCmdLo s = .next { s.silentTick Config.hw with hrdata := some s.cmdLo } ∧
    exec .rdCmdHi s = .next { s.silentTick Config.hw with hrdata := some s.cmdHi } ∧
    exec .rdPin s = .next { s.silentTick Config.hw with hrdata := some (s.pin.setWidth 32) } ∧
    exec .rdDiagRate s =
      .next { s.silentTick Config.hw with hrdata := some (s.diagRate.setWidth 32) } ∧
    exec .rdEvcount s = .next { s.silentTick Config.hw with
      hrdata := some (if s.evRdy = true then BitVec.ofNat 32 s.evbuf.length else 0) }

/-- 40 R108, 10 R39: a STATUS read returns each field of R39's table from S(t), with the sample of the
tick; the tick is otherwise the one without the read. -/
def Obligations.StatusReadReturnsFields : Prop :=
  ∀ s : State, ∃ w : Word,
    exec .rdStatus s = .next { s.silentTick Config.hw with hrdata := some w } ∧
    w.getLsbD 0 = decide (s.phase ≠ .idle) ∧ w.getLsbD 1 = s.dir ∧ w.getLsbD 2 = s.lineOut ∧
    w.getLsbD 3 = s.bound ∧
    w.extractLsb' 4 4 = (match s.phase with
      | .idle => 0 | .lr => 1 | .syncLo => 2 | .syncHi => 3
      | .bitLo => 4 | .bitHi => 5 | .pad => 6 | .mon => 7) ∧
    w.getLsbD 8 = s.rej ∧
    w.extractLsb' 9 3 = (match s.rcause with
      | .none => 0 | .busy => 1 | .badOp => 2 | .rsvdBits => 3 | .badMode => 4 | .unbound => 5) ∧
    w.getLsbD 12 = s.lrto ∧ w.getLsbD 13 = s.padcut ∧ w.getLsbD 14 = s.evRdy ∧
    w.getLsbD 15 = s.evOvf ∧ w.getLsbD 16 = s.sample ∧ w.extractLsb' 17 15 = 0

/-- R44, R113: a MON_STATE read returns each field of R44's table from S(t); the tick is otherwise the
one without the read. -/
def Obligations.MonStateReadReturnsFields : Prop :=
  ∀ s : State, ∃ w : Word,
    exec .rdMonState s = .next { s.silentTick Config.hw with hrdata := some w } ∧
    w.extractLsb' 0 8 = s.acc ∧ w.extractLsb' 8 3 = s.bitCnt ∧ w.getLsbD 11 = s.gapNoted ∧
    w.extractLsb' 12 2 = (match s.mp with
      | .top => 0 | .waitOut => 1 | .waitStart => 2 | .time => 3) ∧
    w.extractLsb' 14 2 = s.mode ∧ w.getLsbD 16 = s.mi ∧
    w.extractLsb' 17 12 = BitVec.ofNat 12 s.mc ∧ w.extractLsb' 29 3 = 0

/-- 10 R43, 40 R112: an EVDATA read returns the head event's word (30 R86, R87: VALID = 1 in bit 31, KIND
from bit 28, PAYLOAD from bit 0) and removes it, where one is readable; else it returns 0 and removes
nothing. -/
def Obligations.EvdataReadPopsHead : Prop :=
  (∀ (s : State) (e : Event) (rest : List Event), s.evRdy = true → s.evbuf = e :: rest →
    exec .rdEvdata s = .next { s.silentTick Config.hw with
      evbuf := rest
      hrdata := some (match e with
        | .frame => 0x90000000
        | .bit b => if b then 0xA0000001 else 0xA0000000
        | .byte v => 0xB00000#24 ++ v
        | .raw d => 0xC000#16 ++ d
        | .lineBreak => 0xD0000000) }) ∧
  (∀ s : State, s.evRdy = false ∨ s.evbuf = [] →
    exec .rdEvdata s = .next { s.silentTick Config.hw with hrdata := some 0 })

/-- 20 R64, 42 R186: on an idle block with readable events, successive EVDATA reads return them in the
order they were emitted, then 0. -/
def Obligations.DrainReturnsEventsInOrder : Prop :=
  ∀ (s : State) (k : Nat), s.phase = .idle → s.evRdy = true →
    readEvents (s.evbuf.length + k) s = s.evbuf.map Event.word ++ List.replicate k 0

/-! ### Transmit path -/

/-- R120: the IDLE step changes nothing, and does not depend on the line. -/
def Obligations.IdleTickHolds : Prop :=
  ∀ s : State, s.phase = .idle → s.fetch = .silent →
    step s = .next { s with
      tick := s.tick + 1, lineIn := s.lineIn.tail, hostIn := s.hostIn.tail, hrdata := none }

/-- 41 R131, R132: one tick of LR without an access: between polls it counts; at a poll it records a low
sample, takes the idle exit, else the timeout exit, else waits on. -/
def Obligations.LineReadyTick : Prop :=
  ∀ s : State, s.phase = .lr → s.fetch = .silent →
    let el := min (s.el + 1) 4294967295
    let last := if s.sample then s.lrLastLow else el
    let base := { s.endTick none with el := el, poll := s.poll + 1 }
    step s = .next (
      if s.poll + 1 ≠ 25 then base
      else if 3000 ≤ el - last then
        { base with
          poll := 0, lrLastLow := last, dir := true, lineOut := false, seg := 0, el := 0
          phase := .syncLo }
      else if 500000 ≤ el then
        { base with
          poll := 0, lrLastLow := last, lrto := true, dir := true, lineOut := false, seg := 0
          el := 0, phase := .syncLo }
      else { base with poll := 0, lrLastLow := last })

/-- R140: one tick of PAD without an access: between polls it counts; at a poll a low sample cuts the
padding, else the padded length ends it. -/
def Obligations.PaddingTick : Prop :=
  ∀ s : State, s.phase = .pad → s.fetch = .silent →
    let el := min (s.el + 1) 4294967295
    let base := { s.endTick none with el := el, poll := s.poll + 1 }
    step s = .next (
      if s.poll + 1 ≠ 25 then base
      else if s.sample = false then { base with poll := 0, padcut := true, phase := .idle }
      else if 30000 ≤ el then { base with poll := 0, phase := .idle }
      else { base with poll := 0 })

/-- R134: the sync mark is low for exactly T_SYNC = 2400 ticks, whatever the host accesses, and the
delimiter follows. -/
def Obligations.SyncMarkExact : Prop :=
  ∀ s : State, s.phase = .syncLo → s.seg = 0 → s.dir = true → s.lineOut = false →
    s.el ≤ 4294967295 → NoReset 2400 s →
    (∀ k < 2400, ∃ t, RunsTo k s t ∧ t.phase = .syncLo ∧ t.lineOe = true ∧ t.lineO = false ∧
      t.seg = k ∧ t.el = min (s.el + k) 4294967295) ∧
    ∃ t, RunsTo 2400 s t ∧ t.phase = .syncHi ∧ t.lineOe = true ∧ t.lineO = true ∧ t.seg = 0 ∧
      t.el = min (s.el + 2400) 4294967295

/-- 41 R136, R137: the mark of a bit is low for exactly 1200 ticks if it is 1 and 600 if it is 0,
whatever the host accesses, and the delimiter follows. -/
def Obligations.BitMarkExact : Prop :=
  ∀ (s : State) (b : Bool), s.phase = .bitLo → s.seg = 0 → s.dir = true → s.lineOut = false →
    (s.fb.get s.byteIdx).getLsbD s.bitPos.toNat = b →
    NoReset (if b then 1200 else 600) s →
    (∀ k < (if b then 1200 else 600), ∃ t, RunsTo k s t ∧ t.phase = .bitLo ∧ t.lineOe = true ∧
      t.lineO = false) ∧
    ∃ t, RunsTo (if b then 1200 else 600) s t ∧ t.phase = .bitHi ∧ t.lineOe = true ∧
      t.lineO = true ∧ t.seg = 0 ∧ t.bitPos = s.bitPos ∧ t.byteIdx = s.byteIdx

/-- 41 R141 (with R132 to R139): from the frame anchor the wire carries the frame's waveform, tick by
tick, whatever the host accesses; at the end of the last delimiter it is released, and padding follows
exactly where the frame is shorter than T_FRAME = 30000. -/
def Obligations.SendDrivesWaveform : Prop :=
  ∀ s : State, s.phase = .syncLo → s.seg = 0 → s.el = 0 → s.dir = true → s.lineOut = false →
    2 ≤ s.nbytes.toNat → s.nbytes.toNat ≤ 4 → NoReset (frameLen Config.hw s.frameBytes) s →
    (∀ k < frameLen Config.hw s.frameBytes, ∃ t, RunsTo k s t ∧ t.lineOe = true ∧
      t.lineO = waveform Config.hw s.frameBytes k) ∧
    ∃ t, RunsTo (frameLen Config.hw s.frameBytes) s t ∧ t.lineOe = false ∧ t.lineO = true ∧
      t.el = frameLen Config.hw s.frameBytes ∧
      t.phase = (if 30000 ≤ frameLen Config.hw s.frameBytes then .idle else .pad)

/-- R84: the length of a frame of n bytes with `ones` 1-bits, in any configuration, with the defaults,
and its range over 2 to 4 bytes. -/
def Obligations.FrameLengthFormula : Prop :=
  (∀ (c : Config) (bytes : List Byte),
    let ones := (bytes.flatMap bitsMsbFirst).count true
    frameLen c bytes =
      c.tSync + c.tDelim + ((bytes.flatMap bitsMsbFirst).map fun b => markLen c b + c.tDelim).sum ∧
    (frameLen c bytes : Int) = c.tSync + c.tDelim + 8 * bytes.length * (c.tZero + c.tDelim) +
      ones * ((c.tOne : Int) - c.tZero)) ∧
  (∀ bytes : List Byte,
    frameLen Config.hw bytes =
      3000 + 9600 * bytes.length + 600 * (bytes.flatMap bitsMsbFirst).count true) ∧
  (∀ bytes : List Byte, 2 ≤ bytes.length → bytes.length ≤ 4 →
    22200 ≤ frameLen Config.hw bytes ∧ frameLen Config.hw bytes ≤ 60600) ∧
  frameLen Config.hw [0, 0] = 22200 ∧ frameLen Config.hw [0xFF, 0xFF, 0xFF, 0xFF] = 60600

/-- 41 R133: the line-ready check ends at a poll, after 3000 to 500000 ticks, whatever the line does and
the host accesses; then the sync mark begins. -/
def Obligations.LineReadyBounded : Prop :=
  ∀ s : State, s.phase = .lr → s.el = 0 → s.poll = 0 → s.lrLastLow = 0 → NoReset 500000 s →
    ∃ k, 3000 ≤ k ∧ k ≤ 500000 ∧ k % 25 = 0 ∧
      (∀ j < k, ∃ t, RunsTo j s t ∧ t.phase = .lr) ∧
      ∃ t, RunsTo k s t ∧ t.phase = .syncLo ∧ t.el = 0 ∧ t.seg = 0 ∧ t.lineOe = true ∧
        t.lineO = false

/-- 41 R131, R133: on a line that reads high the line-ready check takes exactly 3000 ticks and is not
reported as a timeout. -/
def Obligations.IdleLineReadyAfter3000 : Prop :=
  ∀ s : State, s.phase = .lr → s.el = 0 → s.poll = 0 → s.lrLastLow = 0 → NoReset 3000 s →
    LineReads (List.replicate 3000 true) s →
    (∀ j < 3000, ∃ t, RunsTo j s t ∧ t.phase = .lr) ∧
    ∃ t, RunsTo 3000 s t ∧ t.phase = .syncLo ∧ t.lrto = s.lrto

/-- R143: while a frame is driven, nothing but a STATUS read depends on the line: with other levels on
it the step leads to the same state. -/
def Obligations.DrivingIgnoresLine : Prop :=
  ∀ (s : State) (ls : List Level), s.phase.driving = true → s.fetch ≠ .run .rdStatus →
    ∃ t, step s = .next t ∧ step { s with lineIn := ls } = .next { t with lineIn := ls.tail }

/-- 41 R144, 20 R61, 60 R203: while an operation runs, a tick with an access is the tick without it, but
for the command registers, the report and the read data, and for the head event that an EVDATA read
takes out of a readable buffer that is not empty. -/
def Obligations.AccessNeverDisturbsOperation : Prop :=
  ∀ s t : State, s.phase ≠ .idle → s.NotReset → step s = .next t →
    t = { s.silentTick Config.hw with
      cmdLo := t.cmdLo, cmdHi := t.cmdHi, rej := t.rej, rcause := t.rcause, hrdata := t.hrdata
      evbuf := t.evbuf } ∧
    t.evbuf =
      (if s.fetch = .run .rdEvdata ∧ s.evRdy = true ∧ s.evbuf ≠ [] then s.evbuf.tail
      else (s.silentTick Config.hw).evbuf) ∧
    (s.phase ≠ .mon → (s.silentTick Config.hw).evbuf = s.evbuf)

/-- 10 R25: the operation latches hold their values for the whole operation. -/
def Obligations.OperandLatchesHeld : Prop :=
  ∀ s t : State, s.phase ≠ .idle → s.NotReset → step s = .next t →
    t.fb = s.fb ∧ t.nbytes = s.nbytes ∧ t.mode = s.mode ∧ t.mi = s.mi ∧ t.timeout = s.timeout

/-! ### Receive path -/

/-- 42 R170, R171: the classes with the defaults, as the bands of R80 to R82. -/
def Obligations.ClassifierBands : Prop :=
  ∀ d : Nat,
    (classify Config.hw d = .sync ↔ 2000 ≤ d ∧ d ≤ 2880) ∧
    (classify Config.hw d = .one ↔ 1000 ≤ d ∧ d ≤ 1440) ∧
    (classify Config.hw d = .zero ↔ 500 ≤ d ∧ d ≤ 720)

/-- 00 R8, 42 R171: in every well-formed configuration no duration lies in two bands, so the order of
the tests changes no result; and a duration in a band is below the measurement cap. -/
def Obligations.WellFormedBandsDisjoint : Prop :=
  ∀ (c : Config) (d : Nat), c.wf = true →
    ¬(inBand c d c.tSync = true ∧ inBand c d c.tOne = true) ∧
    ¬(inBand c d c.tSync = true ∧ inBand c d c.tZero = true) ∧
    ¬(inBand c d c.tOne = true ∧ inBand c d c.tZero = true) ∧
    (inBand c d c.tSync = true ∨ inBand c d c.tOne = true ∨ inBand c d c.tZero = true →
      0 < d ∧ d < c.tMeasCap)

/-- 42 R162, R163, R167: the loop head of MON without an access: once the timeout has passed the capture
ends and its events become readable; else a measurement starts with this sample. -/
def Obligations.MonitorLoopHead : Prop :=
  ∀ s : State, s.phase = .mon → s.mp = .top → s.fetch = .silent →
    let base := { s.endTick none with el := min (s.el + 1) 4294967295 }
    step s = .next (
      if s.timeout ≤ s.el then { base with evRdy := true, phase := .idle }
      else if s.sample = s.mi then { base with mp := .waitOut, mc := 1 }
      else { base with mp := .waitStart, mc := 1 })

/-- R172: the result 0 clears the partial byte and emits BREAK once per idle gap, in every mode. -/
def Obligations.ZeroResultBreaksOncePerGap : Prop :=
  ∀ s : State,
    (s.gapNoted = false → s.evbuf.length < 4096 →
      s.handle Config.hw 0 =
        { s with acc := 0, bitCnt := 0, evbuf := s.evbuf ++ [.lineBreak], gapNoted := true }) ∧
    (s.gapNoted = false → 4096 ≤ s.evbuf.length →
      s.handle Config.hw 0 = { s with acc := 0, bitCnt := 0, evOvf := true, gapNoted := true }) ∧
    (s.gapNoted = true → s.handle Config.hw 0 = { s with acc := 0, bitCnt := 0 }) ∧
    (s.handle Config.hw 0).handle Config.hw 0 = s.handle Config.hw 0

/-- 42 R173 to R179, R185: what a measured duration does: RAW in mode 0; in the other modes a sync, a 1
bit, a 0 bit or an unknown pulse, by its band. The decoder advances also where the buffer is full and an
event is dropped, and where it has one place left and keeps the BIT but not the BYTE. -/
def Obligations.MeasuredDurationEffects : Prop :=
  ∀ (s : State) (d : Nat), 0 < d →
    (s.mode = 0 → s.handle Config.hw d =
      { s.offered [.raw (BitVec.ofNat 16 d)] with gapNoted := false }) ∧
    (s.mode ≠ 0 → 2000 ≤ d → d ≤ 2880 → s.handle Config.hw d =
      { s.offered [.frame] with gapNoted := false, acc := 0, bitCnt := 0 }) ∧
    (∀ b : Bool, s.mode ≠ 0 → (if b then 1000 ≤ d ∧ d ≤ 1440 else 500 ≤ d ∧ d ≤ 720) →
      let acc := if b then s.acc ||| (0x80#8 >>> s.bitCnt.toNat) else s.acc
      let bits := if s.mode = 1 then [Event.bit b] else []
      s.handle Config.hw d =
        if s.bitCnt = 7 then
          { s.offered (bits ++ [.byte acc]) with gapNoted := false, acc := 0, bitCnt := 0 }
        else { s.offered bits with gapNoted := false, acc := acc, bitCnt := s.bitCnt + 1 }) ∧
    (s.mode ≠ 0 → ¬(500 ≤ d ∧ d ≤ 720) → ¬(1000 ≤ d ∧ d ≤ 1440) → ¬(2000 ≤ d ∧ d ≤ 2880) →
      s.handle Config.hw d = { s with gapNoted := false, acc := 0, bitCnt := 0 })

/-- 42 R186: a result emits at most two events, at the end of the buffer, and two only as a BIT and then
a BYTE. -/
def Obligations.EventsPerResultBounded : Prop :=
  ∀ (s : State) (d : Nat), ∃ es, (s.handle Config.hw d).evbuf = s.evbuf ++ es ∧
    (es.length ≤ 1 ∨ ∃ b v, es = [.bit b, .byte v])

/-- 42 R185, 20 R64: a capture keeps what the buffer holds: an event is appended where there is room,
else it is dropped and EVOVF set. -/
def Obligations.EmitKeepsEarlierEvents : Prop :=
  ∀ (s : State) (e : Event),
    (s.evbuf.length < 4096 → s.emit Config.hw e = { s with evbuf := s.evbuf ++ [e] }) ∧
    (4096 ≤ s.evbuf.length → s.emit Config.hw e = { s with evOvf := true })

/-- 42 R164, R165: a whole pulse of d samples at the measured level, 1 ≤ d ≤ 2999, gives the result d in
the tick of the sample that ends it, whatever the host accesses. -/
def Obligations.WholePulseMeasured : Prop :=
  ∀ (s : State) (d : Nat), s.phase = .mon → s.mp = .waitStart → s.evRdy = false →
    1 ≤ d → d ≤ 2999 → NoReset (d + 1) s →
    LineReads (List.replicate d s.mi ++ [!s.mi]) s →
    ∃ t, RunsTo (d + 1) s t ∧ s.ReturnsResult d t

/-- 42 R187 (the source's round trip, 95 X1): the eight marks of any byte, as measured durations, give
the byte back, in mode 1 with its bits before it. -/
def Obligations.ByteRoundTrip : Prop :=
  ∀ (s : State) (v : Byte), s.mode = 1 ∨ s.mode = 2 → s.acc = 0 → s.bitCnt = 0 →
    s.evbuf.length + 9 ≤ 4096 →
    let t := (bitsMsbFirst v).foldl (fun u b => u.handle Config.hw (markLen Config.hw b)) s
    t.acc = 0 ∧ t.bitCnt = 0 ∧
      t.evbuf = s.evbuf ++ (if s.mode = 1 then (bitsMsbFirst v).map Event.bit else []) ++ [.byte v]

/-- 42 R187: a capture in mode 1 or 2 that waits for a pulse when another block's frame begins, and whose
timeout does not pass before it ends, emits FRAME and then the frame's bytes, in mode 1 each after its
bits, whatever the host accesses. That the timeout 2^32 − 1, which 00 R8 excludes, is taken in is the
model's choice (DEDUCED; notes/assumptions/3.md). -/
def Obligations.CaptureReconstructsFrame : Prop :=
  ∀ (s : State) (bytes : List Byte), s.phase = .mon → s.mp = .waitStart → s.mi = false →
    s.mode = 1 ∨ s.mode = 2 → s.evRdy = false → 1 ≤ bytes.length → bytes.length ≤ 4 →
    s.evbuf.length + 1 + 9 * bytes.length ≤ 4096 →
    s.el + frameLen Config.hw bytes ≤ s.timeout → s.timeout ≤ 4294967295 →
    NoReset (frameLen Config.hw bytes) s →
    LineReads ((List.range (frameLen Config.hw bytes)).map (waveform Config.hw bytes)) s →
    ∃ t, RunsTo (frameLen Config.hw bytes) s t ∧ t.phase = .mon ∧
      t.evbuf = s.evbuf ++ [.frame] ++ bytes.flatMap fun v =>
        (if s.mode = 1 then (bitsMsbFirst v).map Event.bit else []) ++ [.byte v]

/-- 42 R190: a capture ends, TIMEOUT + 1 to TIMEOUT + 9000 ticks after it started,
whatever the line does and the host accesses, and its events are then readable. That the timeout
2^32 − 1, which 00 R8 excludes, is taken in is the model's choice (DEDUCED; notes/assumptions/3.md). -/
def Obligations.CaptureEnds : Prop :=
  ∀ s : State, s.phase = .mon → s.mp = .top → s.el = 0 → s.timeout ≤ 4294967295 →
    NoReset (s.timeout + 9000) s →
    ∃ k, s.timeout + 1 ≤ k ∧ k ≤ s.timeout + 9000 ∧
      (∀ j < k, ∃ t, RunsTo j s t ∧ t.phase = .mon) ∧
      ∃ t, RunsTo k s t ∧ t.phase = .idle ∧ t.evRdy = true

/-- 42 R188: the text of every event: two lowercase hexadecimal digits and a comma for every byte, the
decimal digits and a comma for every duration; a capture's text is its events' texts in order, as for
the capture of program P2 (95 X5). That a BREAK is the character of code 0x0A is general knowledge by
R188's own mark (PRESUMED; notes/assumptions/16.md). -/
def Obligations.EventText : Prop :=
  let hex : List Char :=
    ['0', '1', '2', '3', '4', '5', '6', '7', '8', '9', 'a', 'b', 'c', 'd', 'e', 'f']
  Event.render .frame = "S:" ∧ Event.render (.bit false) = "0" ∧ Event.render (.bit true) = "1" ∧
  (∀ v : Byte, Event.render (.byte v) =
    String.ofList [hex.getD (v.toNat / 16) 'x', hex.getD (v.toNat % 16) 'x', ',']) ∧
  (∀ d : BitVec 16, Event.render (.raw d) = String.ofList (Nat.toDigits 10 d.toNat ++ [','])) ∧
  Event.render .lineBreak = String.ofList [Char.ofNat 0x0A] ∧
  renderCapture [] = "" ∧
  (∀ (e : Event) (es : List Event), renderCapture (e :: es) = e.render ++ renderCapture es) ∧
  Event.render (.byte 0x0A) = "0a," ∧ Event.render (.raw 2400) = "2400," ∧
  renderCapture [.frame, .byte 0xC0, .byte 0x2E, .lineBreak] = "S:c0,2e,\n"

/-! ### Invariants and whole-machine rules -/

/-- The reset state meets the block's invariant (R46). -/
def Obligations.ResetMeetsInvariant : Prop := State.reset.Inv Config.hw

/-- Every step keeps the block's invariant: drive direction and level, report, binding, event buffer,
register widths and waits, segment, frame, measurement, decoder (R25 to R35, R176, R201). -/
def Obligations.StepKeepsInvariant : Prop :=
  ∀ s t : State, s.Inv Config.hw → step s = .next t → t.Inv Config.hw

/-- 10 R33, 40 R119, 42 R189: the block drives the wire exactly while a frame is sent and pulls it low
exactly during a mark; from any state in which this holds, every step keeps it. -/
def Obligations.LineDriveKept : Prop :=
  ∀ s t : State, s.LineInv → step s = .next t → t.LineInv

/-- 10 R47: the phases and accesses outside which, but for reset, the flags of R47's table do not
change. -/
def Obligations.FlagsWrittenOnlyAsListed : Prop :=
  ∀ s t : State, s.NotReset → step s = .next t →
    (t.rej ≠ s.rej → ∃ v, s.fetch = .run (.wrCmdHi v)) ∧
    (s.lrto = false → t.lrto = true → s.phase = .lr ∧ t.phase = .syncLo) ∧
    (s.lrto = true → t.lrto = false → s.phase = .idle ∧ t.phase = .lr) ∧
    (s.padcut = false → t.padcut = true → s.phase = .pad ∧ t.phase = .idle ∧ s.sample = false) ∧
    (s.padcut = true → t.padcut = false → s.phase = .idle ∧ t.phase = .lr) ∧
    (s.evRdy = false → t.evRdy = true → s.phase = .mon ∧ t.phase = .idle) ∧
    (s.evRdy = true → t.evRdy = false → s.phase = .idle ∧ t.phase = .mon) ∧
    (s.evOvf = false → t.evOvf = true → s.phase = .mon ∧ 4096 ≤ s.evbuf.length + 1) ∧
    (s.evOvf = true → t.evOvf = false → s.phase = .idle ∧ t.phase = .mon) ∧
    (s.gapNoted = false → t.gapNoted = true → s.phase = .mon) ∧
    (s.gapNoted = true → t.gapNoted = false → t.phase = .mon) ∧
    (s.bound = false → t.bound = true →
      ∃ v, s.fetch = .run (.wrCmdHi v) ∧ s.phase = .idle ∧
        commandWord v s.cmdLo &&& 0xF#64 = 1) ∧
    (s.bound = true → t.bound = true)

/-! ### The measurement cap -/

/-- 42 R163 to R165, whatever the host accesses: step A, step B and step C give the result 0 once 3000
samples have passed in them without their edge, as do 3000 samples at either level from the loop head of
a capture that goes on, and a pulse of 3000 samples; step A waits out a pulse in progress that ends
before, and leaves the decoder and the events as they are. -/
def Obligations.MeasurementCapGivesZero : Prop :=
  ∀ s : State, s.phase = .mon → s.evRdy = false →
    (∀ b : Level, s.mp = .top → s.el < s.timeout → NoReset 3000 s →
      LineReads (List.replicate 3000 b) s → ∃ t, RunsTo 3000 s t ∧ s.ReturnsResult 0 t) ∧
    (∀ b : Level, (s.mp = .waitOut ∧ b = s.mi) ∨ (s.mp = .waitStart ∧ b = !s.mi) ∨
        (s.mp = .time ∧ b = s.mi) →
      s.mc < 3000 → NoReset (3000 - s.mc) s → LineReads (List.replicate (3000 - s.mc) b) s →
      ∃ t, RunsTo (3000 - s.mc) s t ∧ s.ReturnsResult 0 t) ∧
    (s.mp = .waitStart → NoReset 3000 s → LineReads (List.replicate 3000 s.mi) s →
      ∃ t, RunsTo 3000 s t ∧ s.ReturnsResult 0 t) ∧
    (∀ d : Nat, s.mp = .waitOut → s.mc + d < 3000 → NoReset (d + 1) s →
      LineReads (List.replicate d s.mi ++ [!s.mi]) s →
      ∃ t, RunsTo (d + 1) s t ∧ t.phase = .mon ∧ t.mp = .waitStart ∧ t.mc = 1 ∧ t.acc = s.acc ∧
        t.bitCnt = s.bitCnt ∧ t.gapNoted = s.gapNoted ∧ t.evbuf = s.evbuf ∧ t.evOvf = s.evOvf)

/-! ### Instances -/

/-- 60 R213: a tick takes every instance to where it goes alone; a platform address lies in one window
only, and an access to it reaches the instance of that window and leaves every other as it is. R213 gives
the independence; the common tick of all instances and the routing (notes/assumptions/19.md), and windows
of 32 bytes by number (notes/assumptions/14.md), are the model's choice (DESIGN CHOICE). -/
def Obligations.InstancesIndependent : Prop :=
  (∀ p : List Instance, ∃ q, stepInstances p = .next q ∧ q.length = p.length ∧
    ∀ (k : Nat) (i : Instance), p[k]? = some i →
      ∃ t, step i.block = .next t ∧ q[k]? = some { i with block := t }) ∧
  (∀ (w addr : Nat) (h : BitVec 5),
    platformAddress w addr = some h ↔ addr = 32 * w + h.toNat) ∧
  (∀ (w w' addr : Nat) (h : BitVec 5), w ≠ w' → platformAddress w addr = some h →
    platformAddress w' addr = none) ∧
  (∀ (p : List Instance) (k addr : Nat) (i : Instance) (wr : Bool) (v : Word), p[k]? = some i →
    (∀ h, platformAddress i.window addr = some h → (routeAccess addr wr v p)[k]? =
      some { i with block := i.block.withAccess ⟨h, wr, v⟩ }) ∧
    (platformAddress i.window addr = none → (routeAccess addr wr v p)[k]? = some i))
end

