-- ==== Sys2Proof/Laws/Config.lean ====
section
/-!
SUPPORT. The values of the configuration in use, and the lemma that it is well formed (R7, R8).
-/

namespace Sys2Proof

theorem Config.hw_wf : Config.hw.wf = true := by decide

@[simp] theorem Config.hw_tSync : Config.hw.tSync = 2400 := rfl
@[simp] theorem Config.hw_tOne : Config.hw.tOne = 1200 := rfl
@[simp] theorem Config.hw_tZero : Config.hw.tZero = 600 := rfl
@[simp] theorem Config.hw_tDelim : Config.hw.tDelim = 600 := rfl
@[simp] theorem Config.hw_tLrIdle : Config.hw.tLrIdle = 3000 := rfl
@[simp] theorem Config.hw_tFrame : Config.hw.tFrame = 30000 := rfl
@[simp] theorem Config.hw_tPoll : Config.hw.tPoll = 25 := rfl
@[simp] theorem Config.hw_tLrTimeout : Config.hw.tLrTimeout = 500000 := rfl
@[simp] theorem Config.hw_tolNum : Config.hw.tolNum = 6 := rfl
@[simp] theorem Config.hw_tolDen : Config.hw.tolDen = 5 := rfl
@[simp] theorem Config.hw_tMeasCap : Config.hw.tMeasCap = 3000 := rfl
@[simp] theorem Config.hw_tw : Config.hw.tw = 32 := rfl
@[simp] theorem Config.hw_pinw : Config.hw.pinw = 8 := rfl
@[simp] theorem Config.hw_evCap : Config.hw.evCap = 4096 := rfl
@[simp] theorem Config.hw_hasMonitor : Config.hw.hasMonitor = true := rfl

/-- Saturation in the configuration in use: TW = 32. -/
theorem Machine.saturate_hw (x : Nat) : Machine.saturate Config.hw x = min x 4294967295 := rfl

theorem Machine.saturate_le (c : Config) (x : Nat) : Machine.saturate c x ≤ x :=
  Nat.min_le_left _ _

theorem Machine.saturate_bound (c : Config) (x : Nat) : Machine.saturate c x ≤ 2 ^ c.tw - 1 :=
  Nat.min_le_right _ _

end Sys2Proof
end

