-- ==== Sys2Proof/Laws/Decode.lean ====
section
/-!
SUPPORT. The encodings as arithmetic: the value of each encoded word, and what each field of it reads
as (R72 to R77); the register decode (R51). A proof about an encoding turns it into sums of powers of
two with these and closes with omega.
-/

namespace Sys2Proof

/-- The value of a concatenation {x, y} (R9). -/
theorem toNat_concat {n m : Nat} (x : BitVec n) (y : BitVec m) :
    (x ++ y).toNat = x.toNat * 2 ^ m + y.toNat := by
  rw [BitVec.toNat_append, Nat.shiftLeft_eq, Nat.mul_comm, Nat.two_pow_add_eq_or_of_lt y.isLt]

/-- The value of a slice. -/
theorem toNat_slice {n : Nat} (x : BitVec n) (i k : Nat) :
    (x.extractLsb' i k).toNat = x.toNat / 2 ^ i % 2 ^ k := by
  rw [BitVec.extractLsb'_toNat, Nat.shiftRight_eq_div_pow]

/-- One bit as arithmetic. -/
theorem getLsbD_eq_decide {n : Nat} (x : BitVec n) (i : Nat) :
    x.getLsbD i = decide (x.toNat / 2 ^ i % 2 = 1) := by
  rw [BitVec.getLsbD, Nat.testBit_eq_decide_div_mod_eq]

theorem toNat_encodeNop : encodeNop.toNat = 0 := by decide

theorem toNat_encodeInit (pin : Byte) : (encodeInit pin).toNat = 1 + 256 * pin.toNat := by
  show BitVec.toNat (w := 48 + 8 + 4 + 4) (0#48 ++ pin ++ 0#4 ++ 1#4) = _
  simp only [toNat_concat, BitVec.toNat_ofNat]
  omega

theorem toNat_encodeSend (p2 p3 : Bool) (dev c1 c2 c3 : Byte) :
    (encodeSend p2 p3 dev c1 c2 c3).toNat =
      2 + 2 ^ 4 * p2.toNat + 2 ^ 5 * p3.toNat + 2 ^ 16 * dev.toNat + 2 ^ 24 * c1.toNat +
        2 ^ 32 * c2.toNat + 2 ^ 40 * c3.toNat := by
  show BitVec.toNat (w := 16 + 8 + 8 + 8 + 8 + 8 + 2 + 1 + 1 + 4)
    (0#16 ++ c3 ++ c2 ++ c1 ++ dev ++ 0#8 ++ 0#2 ++ BitVec.ofBool p3 ++ BitVec.ofBool p2 ++ 2#4) = _
  simp only [toNat_concat, BitVec.toNat_ofBool, BitVec.toNat_ofNat]
  omega

theorem toNat_encodeMonitor (mode : BitVec 2) (mi : Bool) (timeout : Word) (rate : BitVec 24) :
    (encodeMonitor mode mi timeout rate).toNat =
      3 + 2 ^ 4 * mode.toNat + 2 ^ 6 * mi.toNat + 2 ^ 8 * timeout.toNat + 2 ^ 40 * rate.toNat := by
  show BitVec.toNat (w := 24 + 32 + 1 + 1 + 2 + 4)
    (rate ++ timeout ++ 0#1 ++ BitVec.ofBool mi ++ mode ++ 3#4) = _
  simp only [toNat_concat, BitVec.toNat_ofBool, BitVec.toNat_ofNat]
  omega

/-! ### Fields of the INIT word -/

@[simp] theorem opField_encodeInit (pin : Byte) : opField (encodeInit pin) = 1#4 := by
  apply BitVec.eq_of_toNat_eq
  simp only [opField, toNat_slice, toNat_encodeInit, BitVec.toNat_ofNat]
  omega

@[simp] theorem pinField_encodeInit (pin : Byte) : pinField (encodeInit pin) = pin := by
  apply BitVec.eq_of_toNat_eq
  have := pin.isLt
  simp only [pinField, toNat_slice, toNat_encodeInit]
  omega

@[simp] theorem encodeInit_high (pin : Byte) : (encodeInit pin).extractLsb' 16 48 = 0#48 := by
  apply BitVec.eq_of_toNat_eq
  have := pin.isLt
  simp only [toNat_slice, toNat_encodeInit, BitVec.toNat_ofNat]
  omega

@[simp] theorem encodeInit_low (pin : Byte) : (encodeInit pin).extractLsb' 4 4 = 0#4 := by
  apply BitVec.eq_of_toNat_eq
  simp only [toNat_slice, toNat_encodeInit, BitVec.toNat_ofNat]
  omega

@[simp] theorem encodeInit_cmdHi (pin : Byte) : (encodeInit pin).extractLsb' 32 32 = 0#32 := by
  apply BitVec.eq_of_toNat_eq
  have := pin.isLt
  simp only [toNat_slice, toNat_encodeInit, BitVec.toNat_ofNat]
  omega

/-! ### Fields of the SEND word -/

section
variable (p2 p3 : Bool) (dev c1 c2 c3 : Byte)

@[simp] theorem opField_encodeSend : opField (encodeSend p2 p3 dev c1 c2 c3) = 2#4 := by
  apply BitVec.eq_of_toNat_eq
  simp only [opField, toNat_slice, toNat_encodeSend, BitVec.toNat_ofNat]
  omega

@[simp] theorem p2Field_encodeSend : p2Field (encodeSend p2 p3 dev c1 c2 c3) = p2 := by
  rw [p2Field, getLsbD_eq_decide, toNat_encodeSend]
  cases p2 <;> cases p3 <;> simp <;> omega

@[simp] theorem p3Field_encodeSend : p3Field (encodeSend p2 p3 dev c1 c2 c3) = p3 := by
  rw [p3Field, getLsbD_eq_decide, toNat_encodeSend]
  cases p2 <;> cases p3 <;> simp <;> omega

@[simp] theorem devField_encodeSend : devField (encodeSend p2 p3 dev c1 c2 c3) = dev := by
  apply BitVec.eq_of_toNat_eq
  have := dev.isLt; have := p2.toNat_lt; have := p3.toNat_lt
  simp only [devField, toNat_slice, toNat_encodeSend]
  omega

@[simp] theorem c1Field_encodeSend : c1Field (encodeSend p2 p3 dev c1 c2 c3) = c1 := by
  apply BitVec.eq_of_toNat_eq
  have := dev.isLt; have := c1.isLt; have := p2.toNat_lt; have := p3.toNat_lt
  simp only [c1Field, toNat_slice, toNat_encodeSend]
  omega

@[simp] theorem c2Field_encodeSend : c2Field (encodeSend p2 p3 dev c1 c2 c3) = c2 := by
  apply BitVec.eq_of_toNat_eq
  have := dev.isLt; have := c1.isLt; have := c2.isLt; have := p2.toNat_lt; have := p3.toNat_lt
  simp only [c2Field, toNat_slice, toNat_encodeSend]
  omega

@[simp] theorem c3Field_encodeSend : c3Field (encodeSend p2 p3 dev c1 c2 c3) = c3 := by
  apply BitVec.eq_of_toNat_eq
  have := dev.isLt; have := c1.isLt; have := c2.isLt; have := c3.isLt
  have := p2.toNat_lt; have := p3.toNat_lt
  simp only [c3Field, toNat_slice, toNat_encodeSend]
  omega

@[simp] theorem encodeSend_high : (encodeSend p2 p3 dev c1 c2 c3).extractLsb' 48 16 = 0#16 := by
  apply BitVec.eq_of_toNat_eq
  have := dev.isLt; have := c1.isLt; have := c2.isLt; have := c3.isLt
  have := p2.toNat_lt; have := p3.toNat_lt
  simp only [toNat_slice, toNat_encodeSend, BitVec.toNat_ofNat]
  omega

@[simp] theorem encodeSend_low : (encodeSend p2 p3 dev c1 c2 c3).extractLsb' 6 10 = 0#10 := by
  apply BitVec.eq_of_toNat_eq
  have := p2.toNat_lt; have := p3.toNat_lt
  simp only [toNat_slice, toNat_encodeSend, BitVec.toNat_ofNat]
  omega

@[simp] theorem encodeSend_cmdHi :
    (encodeSend p2 p3 dev c1 c2 c3).extractLsb' 32 32 = 0#16 ++ c3 ++ c2 := by
  apply BitVec.eq_of_toNat_eq
  have := dev.isLt; have := c1.isLt; have := c2.isLt; have := c3.isLt
  have := p2.toNat_lt; have := p3.toNat_lt
  have e : BitVec.toNat (w := 32) (0#16 ++ c3 ++ c2) = 2 ^ 8 * c3.toNat + c2.toNat := by
    show BitVec.toNat (w := 16 + 8 + 8) (0#16 ++ c3 ++ c2) = _
    simp only [toNat_concat, BitVec.toNat_ofNat]
    omega
  rw [e]
  simp only [toNat_slice, toNat_encodeSend]
  omega

end

/-! ### Fields of the MONITOR word -/

section
variable (mode : BitVec 2) (mi : Bool) (timeout : Word) (rate : BitVec 24)

@[simp] theorem opField_encodeMonitor : opField (encodeMonitor mode mi timeout rate) = 3#4 := by
  apply BitVec.eq_of_toNat_eq
  simp only [opField, toNat_slice, toNat_encodeMonitor, BitVec.toNat_ofNat]
  omega

@[simp] theorem modeField_encodeMonitor :
    modeField (encodeMonitor mode mi timeout rate) = mode := by
  apply BitVec.eq_of_toNat_eq
  have := mode.isLt; have := mi.toNat_lt
  simp only [modeField, toNat_slice, toNat_encodeMonitor]
  omega

@[simp] theorem miField_encodeMonitor : miField (encodeMonitor mode mi timeout rate) = mi := by
  have := mode.isLt
  rw [miField, getLsbD_eq_decide, toNat_encodeMonitor]
  cases mi <;> simp <;> omega

@[simp] theorem timeoutField_encodeMonitor :
    timeoutField (encodeMonitor mode mi timeout rate) = timeout := by
  apply BitVec.eq_of_toNat_eq
  have := mode.isLt; have := mi.toNat_lt; have := timeout.isLt
  simp only [timeoutField, toNat_slice, toNat_encodeMonitor]
  omega

@[simp] theorem rateField_encodeMonitor :
    rateField (encodeMonitor mode mi timeout rate) = rate := by
  apply BitVec.eq_of_toNat_eq
  have := mode.isLt; have := mi.toNat_lt; have := timeout.isLt; have := rate.isLt
  simp only [rateField, toNat_slice, toNat_encodeMonitor]
  omega

@[simp] theorem encodeMonitor_bit7 :
    (encodeMonitor mode mi timeout rate).getLsbD 7 = false := by
  have := mode.isLt
  rw [getLsbD_eq_decide, toNat_encodeMonitor]
  cases mi <;> simp <;> omega

@[simp] theorem encodeMonitor_cmdHi :
    (encodeMonitor mode mi timeout rate).extractLsb' 32 32 = rate ++ timeout.extractLsb' 24 8 := by
  apply BitVec.eq_of_toNat_eq
  have := mode.isLt; have := mi.toNat_lt; have := timeout.isLt; have := rate.isLt
  have e : BitVec.toNat (w := 32) (rate ++ timeout.extractLsb' 24 8) =
      2 ^ 8 * rate.toNat + timeout.toNat / 2 ^ 24 % 2 ^ 8 := by
    show BitVec.toNat (w := 24 + 8) (rate ++ timeout.extractLsb' 24 8) = _
    rw [toNat_concat, toNat_slice, Nat.mul_comm]
  rw [e]
  simp only [toNat_slice, toNat_encodeMonitor]
  omega

end

/-! ### The command word and the registers -/

theorem toNat_commandWord (hi lo : Word) : (commandWord hi lo).toNat = 2 ^ 32 * hi.toNat + lo.toNat := by
  show BitVec.toNat (w := 32 + 32) (hi ++ lo) = _
  rw [toNat_concat, Nat.mul_comm]

@[simp] theorem commandWord_hi (hi lo : Word) : (commandWord hi lo).extractLsb' 32 32 = hi := by
  apply BitVec.eq_of_toNat_eq
  have := hi.isLt; have := lo.isLt
  simp only [toNat_slice, toNat_commandWord]
  omega

@[simp] theorem commandWord_lo (hi lo : Word) : (commandWord hi lo).extractLsb' 0 32 = lo := by
  apply BitVec.eq_of_toNat_eq
  have := hi.isLt; have := lo.isLt
  simp only [toNat_slice, toNat_commandWord]
  omega

/-- A PIN byte lies within PINW bits exactly where no bit of its reserved slice is set (R73). -/
theorem pin_in_range_iff (pin : Byte) (w : Nat) : pin >>> w = 0 ↔ pin.toNat < 2 ^ w := by
  rw [← BitVec.toNat_inj, BitVec.toNat_ushiftRight, Nat.shiftRight_eq_div_pow]
  exact Nat.div_eq_zero_iff_lt (Nat.two_pow_pos w)

@[simp] theorem Reg.offset_index (r : Reg) : r.offset.extractLsb' 2 3 = r.index := by
  cases r <;> decide

@[simp] theorem decodeReg_offset (r : Reg) : decodeReg r.offset = r := by
  cases r <;> decide

/-- An access to the offset of a register, or to any of the three byte addresses above it, selects
that register (R51). -/
theorem decodeReg_index (h : BitVec 5) : (decodeReg h).index = h.extractLsb' 2 3 := by
  revert h; decide

end Sys2Proof
end

