-- ==== Sys2Proof/Laws/State.lean ====
section
/-!
SUPPORT. One lemma per field per plain update of the state, each true by rfl. They let a proof read a
field of an updated state without unfolding the update.
-/

namespace Sys2Proof.Machine.State

variable (s : State)

/-! ### recordRejection -/

@[simp] theorem recordRejection_phase (k : Cause) : (s.recordRejection k).phase = s.phase := rfl
@[simp] theorem recordRejection_fb (k : Cause) : (s.recordRejection k).fb = s.fb := rfl
@[simp] theorem recordRejection_nbytes (k : Cause) : (s.recordRejection k).nbytes = s.nbytes := rfl
@[simp] theorem recordRejection_mode (k : Cause) : (s.recordRejection k).mode = s.mode := rfl
@[simp] theorem recordRejection_mi (k : Cause) : (s.recordRejection k).mi = s.mi := rfl
@[simp] theorem recordRejection_timeout (k : Cause) :
    (s.recordRejection k).timeout = s.timeout := rfl
@[simp] theorem recordRejection_seg (k : Cause) : (s.recordRejection k).seg = s.seg := rfl
@[simp] theorem recordRejection_bitPos (k : Cause) : (s.recordRejection k).bitPos = s.bitPos := rfl
@[simp] theorem recordRejection_byteIdx (k : Cause) :
    (s.recordRejection k).byteIdx = s.byteIdx := rfl
@[simp] theorem recordRejection_el (k : Cause) : (s.recordRejection k).el = s.el := rfl
@[simp] theorem recordRejection_poll (k : Cause) : (s.recordRejection k).poll = s.poll := rfl
@[simp] theorem recordRejection_lrLastLow (k : Cause) :
    (s.recordRejection k).lrLastLow = s.lrLastLow := rfl
@[simp] theorem recordRejection_mp (k : Cause) : (s.recordRejection k).mp = s.mp := rfl
@[simp] theorem recordRejection_mc (k : Cause) : (s.recordRejection k).mc = s.mc := rfl
@[simp] theorem recordRejection_acc (k : Cause) : (s.recordRejection k).acc = s.acc := rfl
@[simp] theorem recordRejection_bitCnt (k : Cause) : (s.recordRejection k).bitCnt = s.bitCnt := rfl
@[simp] theorem recordRejection_gapNoted (k : Cause) :
    (s.recordRejection k).gapNoted = s.gapNoted := rfl
@[simp] theorem recordRejection_evbuf (k : Cause) : (s.recordRejection k).evbuf = s.evbuf := rfl
@[simp] theorem recordRejection_evRdy (k : Cause) : (s.recordRejection k).evRdy = s.evRdy := rfl
@[simp] theorem recordRejection_evOvf (k : Cause) : (s.recordRejection k).evOvf = s.evOvf := rfl
@[simp] theorem recordRejection_dir (k : Cause) : (s.recordRejection k).dir = s.dir := rfl
@[simp] theorem recordRejection_lineOut (k : Cause) :
    (s.recordRejection k).lineOut = s.lineOut := rfl
@[simp] theorem recordRejection_bound (k : Cause) : (s.recordRejection k).bound = s.bound := rfl
@[simp] theorem recordRejection_pin (k : Cause) : (s.recordRejection k).pin = s.pin := rfl
@[simp] theorem recordRejection_rej (k : Cause) : (s.recordRejection k).rej = true := rfl
@[simp] theorem recordRejection_rcause (k : Cause) : (s.recordRejection k).rcause = k := rfl
@[simp] theorem recordRejection_lrto (k : Cause) : (s.recordRejection k).lrto = s.lrto := rfl
@[simp] theorem recordRejection_padcut (k : Cause) : (s.recordRejection k).padcut = s.padcut := rfl
@[simp] theorem recordRejection_diagRate (k : Cause) :
    (s.recordRejection k).diagRate = s.diagRate := rfl
@[simp] theorem recordRejection_cmdLo (k : Cause) : (s.recordRejection k).cmdLo = s.cmdLo := rfl
@[simp] theorem recordRejection_cmdHi (k : Cause) : (s.recordRejection k).cmdHi = s.cmdHi := rfl
@[simp] theorem recordRejection_lineId (k : Cause) : (s.recordRejection k).lineId = s.lineId := rfl
@[simp] theorem recordRejection_tick (k : Cause) : (s.recordRejection k).tick = s.tick := rfl
@[simp] theorem recordRejection_lineIn (k : Cause) : (s.recordRejection k).lineIn = s.lineIn := rfl
@[simp] theorem recordRejection_hostIn (k : Cause) : (s.recordRejection k).hostIn = s.hostIn := rfl
@[simp] theorem recordRejection_hrdata (k : Cause) : (s.recordRejection k).hrdata = s.hrdata := rfl

/-! ### clearRejection -/

@[simp] theorem clearRejection_phase : (s.clearRejection).phase = s.phase := rfl
@[simp] theorem clearRejection_fb : (s.clearRejection).fb = s.fb := rfl
@[simp] theorem clearRejection_nbytes : (s.clearRejection).nbytes = s.nbytes := rfl
@[simp] theorem clearRejection_mode : (s.clearRejection).mode = s.mode := rfl
@[simp] theorem clearRejection_mi : (s.clearRejection).mi = s.mi := rfl
@[simp] theorem clearRejection_timeout : (s.clearRejection).timeout = s.timeout := rfl
@[simp] theorem clearRejection_seg : (s.clearRejection).seg = s.seg := rfl
@[simp] theorem clearRejection_bitPos : (s.clearRejection).bitPos = s.bitPos := rfl
@[simp] theorem clearRejection_byteIdx : (s.clearRejection).byteIdx = s.byteIdx := rfl
@[simp] theorem clearRejection_el : (s.clearRejection).el = s.el := rfl
@[simp] theorem clearRejection_poll : (s.clearRejection).poll = s.poll := rfl
@[simp] theorem clearRejection_lrLastLow : (s.clearRejection).lrLastLow = s.lrLastLow := rfl
@[simp] theorem clearRejection_mp : (s.clearRejection).mp = s.mp := rfl
@[simp] theorem clearRejection_mc : (s.clearRejection).mc = s.mc := rfl
@[simp] theorem clearRejection_acc : (s.clearRejection).acc = s.acc := rfl
@[simp] theorem clearRejection_bitCnt : (s.clearRejection).bitCnt = s.bitCnt := rfl
@[simp] theorem clearRejection_gapNoted : (s.clearRejection).gapNoted = s.gapNoted := rfl
@[simp] theorem clearRejection_evbuf : (s.clearRejection).evbuf = s.evbuf := rfl
@[simp] theorem clearRejection_evRdy : (s.clearRejection).evRdy = s.evRdy := rfl
@[simp] theorem clearRejection_evOvf : (s.clearRejection).evOvf = s.evOvf := rfl
@[simp] theorem clearRejection_dir : (s.clearRejection).dir = s.dir := rfl
@[simp] theorem clearRejection_lineOut : (s.clearRejection).lineOut = s.lineOut := rfl
@[simp] theorem clearRejection_bound : (s.clearRejection).bound = s.bound := rfl
@[simp] theorem clearRejection_pin : (s.clearRejection).pin = s.pin := rfl
@[simp] theorem clearRejection_rej : (s.clearRejection).rej = false := rfl
@[simp] theorem clearRejection_rcause : (s.clearRejection).rcause = .none := rfl
@[simp] theorem clearRejection_lrto : (s.clearRejection).lrto = s.lrto := rfl
@[simp] theorem clearRejection_padcut : (s.clearRejection).padcut = s.padcut := rfl
@[simp] theorem clearRejection_diagRate : (s.clearRejection).diagRate = s.diagRate := rfl
@[simp] theorem clearRejection_cmdLo : (s.clearRejection).cmdLo = s.cmdLo := rfl
@[simp] theorem clearRejection_cmdHi : (s.clearRejection).cmdHi = s.cmdHi := rfl
@[simp] theorem clearRejection_lineId : (s.clearRejection).lineId = s.lineId := rfl
@[simp] theorem clearRejection_tick : (s.clearRejection).tick = s.tick := rfl
@[simp] theorem clearRejection_lineIn : (s.clearRejection).lineIn = s.lineIn := rfl
@[simp] theorem clearRejection_hostIn : (s.clearRejection).hostIn = s.hostIn := rfl
@[simp] theorem clearRejection_hrdata : (s.clearRejection).hrdata = s.hrdata := rfl

/-! ### clearSendReports -/

@[simp] theorem clearSendReports_phase : (s.clearSendReports).phase = s.phase := rfl
@[simp] theorem clearSendReports_fb : (s.clearSendReports).fb = s.fb := rfl
@[simp] theorem clearSendReports_nbytes : (s.clearSendReports).nbytes = s.nbytes := rfl
@[simp] theorem clearSendReports_mode : (s.clearSendReports).mode = s.mode := rfl
@[simp] theorem clearSendReports_mi : (s.clearSendReports).mi = s.mi := rfl
@[simp] theorem clearSendReports_timeout : (s.clearSendReports).timeout = s.timeout := rfl
@[simp] theorem clearSendReports_seg : (s.clearSendReports).seg = s.seg := rfl
@[simp] theorem clearSendReports_bitPos : (s.clearSendReports).bitPos = s.bitPos := rfl
@[simp] theorem clearSendReports_byteIdx : (s.clearSendReports).byteIdx = s.byteIdx := rfl
@[simp] theorem clearSendReports_el : (s.clearSendReports).el = s.el := rfl
@[simp] theorem clearSendReports_poll : (s.clearSendReports).poll = s.poll := rfl
@[simp] theorem clearSendReports_lrLastLow : (s.clearSendReports).lrLastLow = s.lrLastLow := rfl
@[simp] theorem clearSendReports_mp : (s.clearSendReports).mp = s.mp := rfl
@[simp] theorem clearSendReports_mc : (s.clearSendReports).mc = s.mc := rfl
@[simp] theorem clearSendReports_acc : (s.clearSendReports).acc = s.acc := rfl
@[simp] theorem clearSendReports_bitCnt : (s.clearSendReports).bitCnt = s.bitCnt := rfl
@[simp] theorem clearSendReports_gapNoted : (s.clearSendReports).gapNoted = s.gapNoted := rfl
@[simp] theorem clearSendReports_evbuf : (s.clearSendReports).evbuf = s.evbuf := rfl
@[simp] theorem clearSendReports_evRdy : (s.clearSendReports).evRdy = s.evRdy := rfl
@[simp] theorem clearSendReports_evOvf : (s.clearSendReports).evOvf = s.evOvf := rfl
@[simp] theorem clearSendReports_dir : (s.clearSendReports).dir = s.dir := rfl
@[simp] theorem clearSendReports_lineOut : (s.clearSendReports).lineOut = s.lineOut := rfl
@[simp] theorem clearSendReports_bound : (s.clearSendReports).bound = s.bound := rfl
@[simp] theorem clearSendReports_pin : (s.clearSendReports).pin = s.pin := rfl
@[simp] theorem clearSendReports_rej : (s.clearSendReports).rej = s.rej := rfl
@[simp] theorem clearSendReports_rcause : (s.clearSendReports).rcause = s.rcause := rfl
@[simp] theorem clearSendReports_lrto : (s.clearSendReports).lrto = false := rfl
@[simp] theorem clearSendReports_padcut : (s.clearSendReports).padcut = false := rfl
@[simp] theorem clearSendReports_diagRate : (s.clearSendReports).diagRate = s.diagRate := rfl
@[simp] theorem clearSendReports_cmdLo : (s.clearSendReports).cmdLo = s.cmdLo := rfl
@[simp] theorem clearSendReports_cmdHi : (s.clearSendReports).cmdHi = s.cmdHi := rfl
@[simp] theorem clearSendReports_lineId : (s.clearSendReports).lineId = s.lineId := rfl
@[simp] theorem clearSendReports_tick : (s.clearSendReports).tick = s.tick := rfl
@[simp] theorem clearSendReports_lineIn : (s.clearSendReports).lineIn = s.lineIn := rfl
@[simp] theorem clearSendReports_hostIn : (s.clearSendReports).hostIn = s.hostIn := rfl
@[simp] theorem clearSendReports_hrdata : (s.clearSendReports).hrdata = s.hrdata := rfl

/-! ### reportLineReadyTimeout -/

@[simp] theorem reportLineReadyTimeout_phase : (s.reportLineReadyTimeout).phase = s.phase := rfl
@[simp] theorem reportLineReadyTimeout_fb : (s.reportLineReadyTimeout).fb = s.fb := rfl
@[simp] theorem reportLineReadyTimeout_nbytes : (s.reportLineReadyTimeout).nbytes = s.nbytes := rfl
@[simp] theorem reportLineReadyTimeout_mode : (s.reportLineReadyTimeout).mode = s.mode := rfl
@[simp] theorem reportLineReadyTimeout_mi : (s.reportLineReadyTimeout).mi = s.mi := rfl
@[simp] theorem reportLineReadyTimeout_timeout :
    (s.reportLineReadyTimeout).timeout = s.timeout := rfl
@[simp] theorem reportLineReadyTimeout_seg : (s.reportLineReadyTimeout).seg = s.seg := rfl
@[simp] theorem reportLineReadyTimeout_bitPos : (s.reportLineReadyTimeout).bitPos = s.bitPos := rfl
@[simp] theorem reportLineReadyTimeout_byteIdx :
    (s.reportLineReadyTimeout).byteIdx = s.byteIdx := rfl
@[simp] theorem reportLineReadyTimeout_el : (s.reportLineReadyTimeout).el = s.el := rfl
@[simp] theorem reportLineReadyTimeout_poll : (s.reportLineReadyTimeout).poll = s.poll := rfl
@[simp] theorem reportLineReadyTimeout_lrLastLow :
    (s.reportLineReadyTimeout).lrLastLow = s.lrLastLow := rfl
@[simp] theorem reportLineReadyTimeout_mp : (s.reportLineReadyTimeout).mp = s.mp := rfl
@[simp] theorem reportLineReadyTimeout_mc : (s.reportLineReadyTimeout).mc = s.mc := rfl
@[simp] theorem reportLineReadyTimeout_acc : (s.reportLineReadyTimeout).acc = s.acc := rfl
@[simp] theorem reportLineReadyTimeout_bitCnt : (s.reportLineReadyTimeout).bitCnt = s.bitCnt := rfl
@[simp] theorem reportLineReadyTimeout_gapNoted :
    (s.reportLineReadyTimeout).gapNoted = s.gapNoted := rfl
@[simp] theorem reportLineReadyTimeout_evbuf : (s.reportLineReadyTimeout).evbuf = s.evbuf := rfl
@[simp] theorem reportLineReadyTimeout_evRdy : (s.reportLineReadyTimeout).evRdy = s.evRdy := rfl
@[simp] theorem reportLineReadyTimeout_evOvf : (s.reportLineReadyTimeout).evOvf = s.evOvf := rfl
@[simp] theorem reportLineReadyTimeout_dir : (s.reportLineReadyTimeout).dir = s.dir := rfl
@[simp] theorem reportLineReadyTimeout_lineOut :
    (s.reportLineReadyTimeout).lineOut = s.lineOut := rfl
@[simp] theorem reportLineReadyTimeout_bound : (s.reportLineReadyTimeout).bound = s.bound := rfl
@[simp] theorem reportLineReadyTimeout_pin : (s.reportLineReadyTimeout).pin = s.pin := rfl
@[simp] theorem reportLineReadyTimeout_rej : (s.reportLineReadyTimeout).rej = s.rej := rfl
@[simp] theorem reportLineReadyTimeout_rcause : (s.reportLineReadyTimeout).rcause = s.rcause := rfl
@[simp] theorem reportLineReadyTimeout_lrto : (s.reportLineReadyTimeout).lrto = true := rfl
@[simp] theorem reportLineReadyTimeout_padcut : (s.reportLineReadyTimeout).padcut = s.padcut := rfl
@[simp] theorem reportLineReadyTimeout_diagRate :
    (s.reportLineReadyTimeout).diagRate = s.diagRate := rfl
@[simp] theorem reportLineReadyTimeout_cmdLo : (s.reportLineReadyTimeout).cmdLo = s.cmdLo := rfl
@[simp] theorem reportLineReadyTimeout_cmdHi : (s.reportLineReadyTimeout).cmdHi = s.cmdHi := rfl
@[simp] theorem reportLineReadyTimeout_lineId : (s.reportLineReadyTimeout).lineId = s.lineId := rfl
@[simp] theorem reportLineReadyTimeout_tick : (s.reportLineReadyTimeout).tick = s.tick := rfl
@[simp] theorem reportLineReadyTimeout_lineIn : (s.reportLineReadyTimeout).lineIn = s.lineIn := rfl
@[simp] theorem reportLineReadyTimeout_hostIn : (s.reportLineReadyTimeout).hostIn = s.hostIn := rfl
@[simp] theorem reportLineReadyTimeout_hrdata : (s.reportLineReadyTimeout).hrdata = s.hrdata := rfl

/-! ### reportPadCut -/

@[simp] theorem reportPadCut_phase : (s.reportPadCut).phase = s.phase := rfl
@[simp] theorem reportPadCut_fb : (s.reportPadCut).fb = s.fb := rfl
@[simp] theorem reportPadCut_nbytes : (s.reportPadCut).nbytes = s.nbytes := rfl
@[simp] theorem reportPadCut_mode : (s.reportPadCut).mode = s.mode := rfl
@[simp] theorem reportPadCut_mi : (s.reportPadCut).mi = s.mi := rfl
@[simp] theorem reportPadCut_timeout : (s.reportPadCut).timeout = s.timeout := rfl
@[simp] theorem reportPadCut_seg : (s.reportPadCut).seg = s.seg := rfl
@[simp] theorem reportPadCut_bitPos : (s.reportPadCut).bitPos = s.bitPos := rfl
@[simp] theorem reportPadCut_byteIdx : (s.reportPadCut).byteIdx = s.byteIdx := rfl
@[simp] theorem reportPadCut_el : (s.reportPadCut).el = s.el := rfl
@[simp] theorem reportPadCut_poll : (s.reportPadCut).poll = s.poll := rfl
@[simp] theorem reportPadCut_lrLastLow : (s.reportPadCut).lrLastLow = s.lrLastLow := rfl
@[simp] theorem reportPadCut_mp : (s.reportPadCut).mp = s.mp := rfl
@[simp] theorem reportPadCut_mc : (s.reportPadCut).mc = s.mc := rfl
@[simp] theorem reportPadCut_acc : (s.reportPadCut).acc = s.acc := rfl
@[simp] theorem reportPadCut_bitCnt : (s.reportPadCut).bitCnt = s.bitCnt := rfl
@[simp] theorem reportPadCut_gapNoted : (s.reportPadCut).gapNoted = s.gapNoted := rfl
@[simp] theorem reportPadCut_evbuf : (s.reportPadCut).evbuf = s.evbuf := rfl
@[simp] theorem reportPadCut_evRdy : (s.reportPadCut).evRdy = s.evRdy := rfl
@[simp] theorem reportPadCut_evOvf : (s.reportPadCut).evOvf = s.evOvf := rfl
@[simp] theorem reportPadCut_dir : (s.reportPadCut).dir = s.dir := rfl
@[simp] theorem reportPadCut_lineOut : (s.reportPadCut).lineOut = s.lineOut := rfl
@[simp] theorem reportPadCut_bound : (s.reportPadCut).bound = s.bound := rfl
@[simp] theorem reportPadCut_pin : (s.reportPadCut).pin = s.pin := rfl
@[simp] theorem reportPadCut_rej : (s.reportPadCut).rej = s.rej := rfl
@[simp] theorem reportPadCut_rcause : (s.reportPadCut).rcause = s.rcause := rfl
@[simp] theorem reportPadCut_lrto : (s.reportPadCut).lrto = s.lrto := rfl
@[simp] theorem reportPadCut_padcut : (s.reportPadCut).padcut = true := rfl
@[simp] theorem reportPadCut_diagRate : (s.reportPadCut).diagRate = s.diagRate := rfl
@[simp] theorem reportPadCut_cmdLo : (s.reportPadCut).cmdLo = s.cmdLo := rfl
@[simp] theorem reportPadCut_cmdHi : (s.reportPadCut).cmdHi = s.cmdHi := rfl
@[simp] theorem reportPadCut_lineId : (s.reportPadCut).lineId = s.lineId := rfl
@[simp] theorem reportPadCut_tick : (s.reportPadCut).tick = s.tick := rfl
@[simp] theorem reportPadCut_lineIn : (s.reportPadCut).lineIn = s.lineIn := rfl
@[simp] theorem reportPadCut_hostIn : (s.reportPadCut).hostIn = s.hostIn := rfl
@[simp] theorem reportPadCut_hrdata : (s.reportPadCut).hrdata = s.hrdata := rfl

/-! ### clearEvents -/

@[simp] theorem clearEvents_phase : (s.clearEvents).phase = s.phase := rfl
@[simp] theorem clearEvents_fb : (s.clearEvents).fb = s.fb := rfl
@[simp] theorem clearEvents_nbytes : (s.clearEvents).nbytes = s.nbytes := rfl
@[simp] theorem clearEvents_mode : (s.clearEvents).mode = s.mode := rfl
@[simp] theorem clearEvents_mi : (s.clearEvents).mi = s.mi := rfl
@[simp] theorem clearEvents_timeout : (s.clearEvents).timeout = s.timeout := rfl
@[simp] theorem clearEvents_seg : (s.clearEvents).seg = s.seg := rfl
@[simp] theorem clearEvents_bitPos : (s.clearEvents).bitPos = s.bitPos := rfl
@[simp] theorem clearEvents_byteIdx : (s.clearEvents).byteIdx = s.byteIdx := rfl
@[simp] theorem clearEvents_el : (s.clearEvents).el = s.el := rfl
@[simp] theorem clearEvents_poll : (s.clearEvents).poll = s.poll := rfl
@[simp] theorem clearEvents_lrLastLow : (s.clearEvents).lrLastLow = s.lrLastLow := rfl
@[simp] theorem clearEvents_mp : (s.clearEvents).mp = s.mp := rfl
@[simp] theorem clearEvents_mc : (s.clearEvents).mc = s.mc := rfl
@[simp] theorem clearEvents_acc : (s.clearEvents).acc = s.acc := rfl
@[simp] theorem clearEvents_bitCnt : (s.clearEvents).bitCnt = s.bitCnt := rfl
@[simp] theorem clearEvents_gapNoted : (s.clearEvents).gapNoted = s.gapNoted := rfl
@[simp] theorem clearEvents_evbuf : (s.clearEvents).evbuf = [] := rfl
@[simp] theorem clearEvents_evRdy : (s.clearEvents).evRdy = false := rfl
@[simp] theorem clearEvents_evOvf : (s.clearEvents).evOvf = false := rfl
@[simp] theorem clearEvents_dir : (s.clearEvents).dir = s.dir := rfl
@[simp] theorem clearEvents_lineOut : (s.clearEvents).lineOut = s.lineOut := rfl
@[simp] theorem clearEvents_bound : (s.clearEvents).bound = s.bound := rfl
@[simp] theorem clearEvents_pin : (s.clearEvents).pin = s.pin := rfl
@[simp] theorem clearEvents_rej : (s.clearEvents).rej = s.rej := rfl
@[simp] theorem clearEvents_rcause : (s.clearEvents).rcause = s.rcause := rfl
@[simp] theorem clearEvents_lrto : (s.clearEvents).lrto = s.lrto := rfl
@[simp] theorem clearEvents_padcut : (s.clearEvents).padcut = s.padcut := rfl
@[simp] theorem clearEvents_diagRate : (s.clearEvents).diagRate = s.diagRate := rfl
@[simp] theorem clearEvents_cmdLo : (s.clearEvents).cmdLo = s.cmdLo := rfl
@[simp] theorem clearEvents_cmdHi : (s.clearEvents).cmdHi = s.cmdHi := rfl
@[simp] theorem clearEvents_lineId : (s.clearEvents).lineId = s.lineId := rfl
@[simp] theorem clearEvents_tick : (s.clearEvents).tick = s.tick := rfl
@[simp] theorem clearEvents_lineIn : (s.clearEvents).lineIn = s.lineIn := rfl
@[simp] theorem clearEvents_hostIn : (s.clearEvents).hostIn = s.hostIn := rfl
@[simp] theorem clearEvents_hrdata : (s.clearEvents).hrdata = s.hrdata := rfl

/-! ### publishEvents -/

@[simp] theorem publishEvents_phase : (s.publishEvents).phase = s.phase := rfl
@[simp] theorem publishEvents_fb : (s.publishEvents).fb = s.fb := rfl
@[simp] theorem publishEvents_nbytes : (s.publishEvents).nbytes = s.nbytes := rfl
@[simp] theorem publishEvents_mode : (s.publishEvents).mode = s.mode := rfl
@[simp] theorem publishEvents_mi : (s.publishEvents).mi = s.mi := rfl
@[simp] theorem publishEvents_timeout : (s.publishEvents).timeout = s.timeout := rfl
@[simp] theorem publishEvents_seg : (s.publishEvents).seg = s.seg := rfl
@[simp] theorem publishEvents_bitPos : (s.publishEvents).bitPos = s.bitPos := rfl
@[simp] theorem publishEvents_byteIdx : (s.publishEvents).byteIdx = s.byteIdx := rfl
@[simp] theorem publishEvents_el : (s.publishEvents).el = s.el := rfl
@[simp] theorem publishEvents_poll : (s.publishEvents).poll = s.poll := rfl
@[simp] theorem publishEvents_lrLastLow : (s.publishEvents).lrLastLow = s.lrLastLow := rfl
@[simp] theorem publishEvents_mp : (s.publishEvents).mp = s.mp := rfl
@[simp] theorem publishEvents_mc : (s.publishEvents).mc = s.mc := rfl
@[simp] theorem publishEvents_acc : (s.publishEvents).acc = s.acc := rfl
@[simp] theorem publishEvents_bitCnt : (s.publishEvents).bitCnt = s.bitCnt := rfl
@[simp] theorem publishEvents_gapNoted : (s.publishEvents).gapNoted = s.gapNoted := rfl
@[simp] theorem publishEvents_evbuf : (s.publishEvents).evbuf = s.evbuf := rfl
@[simp] theorem publishEvents_evRdy : (s.publishEvents).evRdy = true := rfl
@[simp] theorem publishEvents_evOvf : (s.publishEvents).evOvf = s.evOvf := rfl
@[simp] theorem publishEvents_dir : (s.publishEvents).dir = s.dir := rfl
@[simp] theorem publishEvents_lineOut : (s.publishEvents).lineOut = s.lineOut := rfl
@[simp] theorem publishEvents_bound : (s.publishEvents).bound = s.bound := rfl
@[simp] theorem publishEvents_pin : (s.publishEvents).pin = s.pin := rfl
@[simp] theorem publishEvents_rej : (s.publishEvents).rej = s.rej := rfl
@[simp] theorem publishEvents_rcause : (s.publishEvents).rcause = s.rcause := rfl
@[simp] theorem publishEvents_lrto : (s.publishEvents).lrto = s.lrto := rfl
@[simp] theorem publishEvents_padcut : (s.publishEvents).padcut = s.padcut := rfl
@[simp] theorem publishEvents_diagRate : (s.publishEvents).diagRate = s.diagRate := rfl
@[simp] theorem publishEvents_cmdLo : (s.publishEvents).cmdLo = s.cmdLo := rfl
@[simp] theorem publishEvents_cmdHi : (s.publishEvents).cmdHi = s.cmdHi := rfl
@[simp] theorem publishEvents_lineId : (s.publishEvents).lineId = s.lineId := rfl
@[simp] theorem publishEvents_tick : (s.publishEvents).tick = s.tick := rfl
@[simp] theorem publishEvents_lineIn : (s.publishEvents).lineIn = s.lineIn := rfl
@[simp] theorem publishEvents_hostIn : (s.publishEvents).hostIn = s.hostIn := rfl
@[simp] theorem publishEvents_hrdata : (s.publishEvents).hrdata = s.hrdata := rfl

/-! ### reportOverflow -/

@[simp] theorem reportOverflow_phase : (s.reportOverflow).phase = s.phase := rfl
@[simp] theorem reportOverflow_fb : (s.reportOverflow).fb = s.fb := rfl
@[simp] theorem reportOverflow_nbytes : (s.reportOverflow).nbytes = s.nbytes := rfl
@[simp] theorem reportOverflow_mode : (s.reportOverflow).mode = s.mode := rfl
@[simp] theorem reportOverflow_mi : (s.reportOverflow).mi = s.mi := rfl
@[simp] theorem reportOverflow_timeout : (s.reportOverflow).timeout = s.timeout := rfl
@[simp] theorem reportOverflow_seg : (s.reportOverflow).seg = s.seg := rfl
@[simp] theorem reportOverflow_bitPos : (s.reportOverflow).bitPos = s.bitPos := rfl
@[simp] theorem reportOverflow_byteIdx : (s.reportOverflow).byteIdx = s.byteIdx := rfl
@[simp] theorem reportOverflow_el : (s.reportOverflow).el = s.el := rfl
@[simp] theorem reportOverflow_poll : (s.reportOverflow).poll = s.poll := rfl
@[simp] theorem reportOverflow_lrLastLow : (s.reportOverflow).lrLastLow = s.lrLastLow := rfl
@[simp] theorem reportOverflow_mp : (s.reportOverflow).mp = s.mp := rfl
@[simp] theorem reportOverflow_mc : (s.reportOverflow).mc = s.mc := rfl
@[simp] theorem reportOverflow_acc : (s.reportOverflow).acc = s.acc := rfl
@[simp] theorem reportOverflow_bitCnt : (s.reportOverflow).bitCnt = s.bitCnt := rfl
@[simp] theorem reportOverflow_gapNoted : (s.reportOverflow).gapNoted = s.gapNoted := rfl
@[simp] theorem reportOverflow_evbuf : (s.reportOverflow).evbuf = s.evbuf := rfl
@[simp] theorem reportOverflow_evRdy : (s.reportOverflow).evRdy = s.evRdy := rfl
@[simp] theorem reportOverflow_evOvf : (s.reportOverflow).evOvf = true := rfl
@[simp] theorem reportOverflow_dir : (s.reportOverflow).dir = s.dir := rfl
@[simp] theorem reportOverflow_lineOut : (s.reportOverflow).lineOut = s.lineOut := rfl
@[simp] theorem reportOverflow_bound : (s.reportOverflow).bound = s.bound := rfl
@[simp] theorem reportOverflow_pin : (s.reportOverflow).pin = s.pin := rfl
@[simp] theorem reportOverflow_rej : (s.reportOverflow).rej = s.rej := rfl
@[simp] theorem reportOverflow_rcause : (s.reportOverflow).rcause = s.rcause := rfl
@[simp] theorem reportOverflow_lrto : (s.reportOverflow).lrto = s.lrto := rfl
@[simp] theorem reportOverflow_padcut : (s.reportOverflow).padcut = s.padcut := rfl
@[simp] theorem reportOverflow_diagRate : (s.reportOverflow).diagRate = s.diagRate := rfl
@[simp] theorem reportOverflow_cmdLo : (s.reportOverflow).cmdLo = s.cmdLo := rfl
@[simp] theorem reportOverflow_cmdHi : (s.reportOverflow).cmdHi = s.cmdHi := rfl
@[simp] theorem reportOverflow_lineId : (s.reportOverflow).lineId = s.lineId := rfl
@[simp] theorem reportOverflow_tick : (s.reportOverflow).tick = s.tick := rfl
@[simp] theorem reportOverflow_lineIn : (s.reportOverflow).lineIn = s.lineIn := rfl
@[simp] theorem reportOverflow_hostIn : (s.reportOverflow).hostIn = s.hostIn := rfl
@[simp] theorem reportOverflow_hrdata : (s.reportOverflow).hrdata = s.hrdata := rfl

/-! ### noteGap -/

@[simp] theorem noteGap_phase : (s.noteGap).phase = s.phase := rfl
@[simp] theorem noteGap_fb : (s.noteGap).fb = s.fb := rfl
@[simp] theorem noteGap_nbytes : (s.noteGap).nbytes = s.nbytes := rfl
@[simp] theorem noteGap_mode : (s.noteGap).mode = s.mode := rfl
@[simp] theorem noteGap_mi : (s.noteGap).mi = s.mi := rfl
@[simp] theorem noteGap_timeout : (s.noteGap).timeout = s.timeout := rfl
@[simp] theorem noteGap_seg : (s.noteGap).seg = s.seg := rfl
@[simp] theorem noteGap_bitPos : (s.noteGap).bitPos = s.bitPos := rfl
@[simp] theorem noteGap_byteIdx : (s.noteGap).byteIdx = s.byteIdx := rfl
@[simp] theorem noteGap_el : (s.noteGap).el = s.el := rfl
@[simp] theorem noteGap_poll : (s.noteGap).poll = s.poll := rfl
@[simp] theorem noteGap_lrLastLow : (s.noteGap).lrLastLow = s.lrLastLow := rfl
@[simp] theorem noteGap_mp : (s.noteGap).mp = s.mp := rfl
@[simp] theorem noteGap_mc : (s.noteGap).mc = s.mc := rfl
@[simp] theorem noteGap_acc : (s.noteGap).acc = s.acc := rfl
@[simp] theorem noteGap_bitCnt : (s.noteGap).bitCnt = s.bitCnt := rfl
@[simp] theorem noteGap_gapNoted : (s.noteGap).gapNoted = true := rfl
@[simp] theorem noteGap_evbuf : (s.noteGap).evbuf = s.evbuf := rfl
@[simp] theorem noteGap_evRdy : (s.noteGap).evRdy = s.evRdy := rfl
@[simp] theorem noteGap_evOvf : (s.noteGap).evOvf = s.evOvf := rfl
@[simp] theorem noteGap_dir : (s.noteGap).dir = s.dir := rfl
@[simp] theorem noteGap_lineOut : (s.noteGap).lineOut = s.lineOut := rfl
@[simp] theorem noteGap_bound : (s.noteGap).bound = s.bound := rfl
@[simp] theorem noteGap_pin : (s.noteGap).pin = s.pin := rfl
@[simp] theorem noteGap_rej : (s.noteGap).rej = s.rej := rfl
@[simp] theorem noteGap_rcause : (s.noteGap).rcause = s.rcause := rfl
@[simp] theorem noteGap_lrto : (s.noteGap).lrto = s.lrto := rfl
@[simp] theorem noteGap_padcut : (s.noteGap).padcut = s.padcut := rfl
@[simp] theorem noteGap_diagRate : (s.noteGap).diagRate = s.diagRate := rfl
@[simp] theorem noteGap_cmdLo : (s.noteGap).cmdLo = s.cmdLo := rfl
@[simp] theorem noteGap_cmdHi : (s.noteGap).cmdHi = s.cmdHi := rfl
@[simp] theorem noteGap_lineId : (s.noteGap).lineId = s.lineId := rfl
@[simp] theorem noteGap_tick : (s.noteGap).tick = s.tick := rfl
@[simp] theorem noteGap_lineIn : (s.noteGap).lineIn = s.lineIn := rfl
@[simp] theorem noteGap_hostIn : (s.noteGap).hostIn = s.hostIn := rfl
@[simp] theorem noteGap_hrdata : (s.noteGap).hrdata = s.hrdata := rfl

/-! ### clearGap -/

@[simp] theorem clearGap_phase : (s.clearGap).phase = s.phase := rfl
@[simp] theorem clearGap_fb : (s.clearGap).fb = s.fb := rfl
@[simp] theorem clearGap_nbytes : (s.clearGap).nbytes = s.nbytes := rfl
@[simp] theorem clearGap_mode : (s.clearGap).mode = s.mode := rfl
@[simp] theorem clearGap_mi : (s.clearGap).mi = s.mi := rfl
@[simp] theorem clearGap_timeout : (s.clearGap).timeout = s.timeout := rfl
@[simp] theorem clearGap_seg : (s.clearGap).seg = s.seg := rfl
@[simp] theorem clearGap_bitPos : (s.clearGap).bitPos = s.bitPos := rfl
@[simp] theorem clearGap_byteIdx : (s.clearGap).byteIdx = s.byteIdx := rfl
@[simp] theorem clearGap_el : (s.clearGap).el = s.el := rfl
@[simp] theorem clearGap_poll : (s.clearGap).poll = s.poll := rfl
@[simp] theorem clearGap_lrLastLow : (s.clearGap).lrLastLow = s.lrLastLow := rfl
@[simp] theorem clearGap_mp : (s.clearGap).mp = s.mp := rfl
@[simp] theorem clearGap_mc : (s.clearGap).mc = s.mc := rfl
@[simp] theorem clearGap_acc : (s.clearGap).acc = s.acc := rfl
@[simp] theorem clearGap_bitCnt : (s.clearGap).bitCnt = s.bitCnt := rfl
@[simp] theorem clearGap_gapNoted : (s.clearGap).gapNoted = false := rfl
@[simp] theorem clearGap_evbuf : (s.clearGap).evbuf = s.evbuf := rfl
@[simp] theorem clearGap_evRdy : (s.clearGap).evRdy = s.evRdy := rfl
@[simp] theorem clearGap_evOvf : (s.clearGap).evOvf = s.evOvf := rfl
@[simp] theorem clearGap_dir : (s.clearGap).dir = s.dir := rfl
@[simp] theorem clearGap_lineOut : (s.clearGap).lineOut = s.lineOut := rfl
@[simp] theorem clearGap_bound : (s.clearGap).bound = s.bound := rfl
@[simp] theorem clearGap_pin : (s.clearGap).pin = s.pin := rfl
@[simp] theorem clearGap_rej : (s.clearGap).rej = s.rej := rfl
@[simp] theorem clearGap_rcause : (s.clearGap).rcause = s.rcause := rfl
@[simp] theorem clearGap_lrto : (s.clearGap).lrto = s.lrto := rfl
@[simp] theorem clearGap_padcut : (s.clearGap).padcut = s.padcut := rfl
@[simp] theorem clearGap_diagRate : (s.clearGap).diagRate = s.diagRate := rfl
@[simp] theorem clearGap_cmdLo : (s.clearGap).cmdLo = s.cmdLo := rfl
@[simp] theorem clearGap_cmdHi : (s.clearGap).cmdHi = s.cmdHi := rfl
@[simp] theorem clearGap_lineId : (s.clearGap).lineId = s.lineId := rfl
@[simp] theorem clearGap_tick : (s.clearGap).tick = s.tick := rfl
@[simp] theorem clearGap_lineIn : (s.clearGap).lineIn = s.lineIn := rfl
@[simp] theorem clearGap_hostIn : (s.clearGap).hostIn = s.hostIn := rfl
@[simp] theorem clearGap_hrdata : (s.clearGap).hrdata = s.hrdata := rfl

/-! ### countElapsed -/

@[simp] theorem countElapsed_phase (c : Config) : (s.countElapsed c).phase = s.phase := rfl
@[simp] theorem countElapsed_fb (c : Config) : (s.countElapsed c).fb = s.fb := rfl
@[simp] theorem countElapsed_nbytes (c : Config) : (s.countElapsed c).nbytes = s.nbytes := rfl
@[simp] theorem countElapsed_mode (c : Config) : (s.countElapsed c).mode = s.mode := rfl
@[simp] theorem countElapsed_mi (c : Config) : (s.countElapsed c).mi = s.mi := rfl
@[simp] theorem countElapsed_timeout (c : Config) : (s.countElapsed c).timeout = s.timeout := rfl
@[simp] theorem countElapsed_seg (c : Config) : (s.countElapsed c).seg = s.seg := rfl
@[simp] theorem countElapsed_bitPos (c : Config) : (s.countElapsed c).bitPos = s.bitPos := rfl
@[simp] theorem countElapsed_byteIdx (c : Config) : (s.countElapsed c).byteIdx = s.byteIdx := rfl
@[simp] theorem countElapsed_el (c : Config) : (s.countElapsed c).el = saturate c (s.el + 1) := rfl
@[simp] theorem countElapsed_poll (c : Config) : (s.countElapsed c).poll = s.poll := rfl
@[simp] theorem countElapsed_lrLastLow (c : Config) :
    (s.countElapsed c).lrLastLow = s.lrLastLow := rfl
@[simp] theorem countElapsed_mp (c : Config) : (s.countElapsed c).mp = s.mp := rfl
@[simp] theorem countElapsed_mc (c : Config) : (s.countElapsed c).mc = s.mc := rfl
@[simp] theorem countElapsed_acc (c : Config) : (s.countElapsed c).acc = s.acc := rfl
@[simp] theorem countElapsed_bitCnt (c : Config) : (s.countElapsed c).bitCnt = s.bitCnt := rfl
@[simp] theorem countElapsed_gapNoted (c : Config) : (s.countElapsed c).gapNoted = s.gapNoted := rfl
@[simp] theorem countElapsed_evbuf (c : Config) : (s.countElapsed c).evbuf = s.evbuf := rfl
@[simp] theorem countElapsed_evRdy (c : Config) : (s.countElapsed c).evRdy = s.evRdy := rfl
@[simp] theorem countElapsed_evOvf (c : Config) : (s.countElapsed c).evOvf = s.evOvf := rfl
@[simp] theorem countElapsed_dir (c : Config) : (s.countElapsed c).dir = s.dir := rfl
@[simp] theorem countElapsed_lineOut (c : Config) : (s.countElapsed c).lineOut = s.lineOut := rfl
@[simp] theorem countElapsed_bound (c : Config) : (s.countElapsed c).bound = s.bound := rfl
@[simp] theorem countElapsed_pin (c : Config) : (s.countElapsed c).pin = s.pin := rfl
@[simp] theorem countElapsed_rej (c : Config) : (s.countElapsed c).rej = s.rej := rfl
@[simp] theorem countElapsed_rcause (c : Config) : (s.countElapsed c).rcause = s.rcause := rfl
@[simp] theorem countElapsed_lrto (c : Config) : (s.countElapsed c).lrto = s.lrto := rfl
@[simp] theorem countElapsed_padcut (c : Config) : (s.countElapsed c).padcut = s.padcut := rfl
@[simp] theorem countElapsed_diagRate (c : Config) : (s.countElapsed c).diagRate = s.diagRate := rfl
@[simp] theorem countElapsed_cmdLo (c : Config) : (s.countElapsed c).cmdLo = s.cmdLo := rfl
@[simp] theorem countElapsed_cmdHi (c : Config) : (s.countElapsed c).cmdHi = s.cmdHi := rfl
@[simp] theorem countElapsed_lineId (c : Config) : (s.countElapsed c).lineId = s.lineId := rfl
@[simp] theorem countElapsed_tick (c : Config) : (s.countElapsed c).tick = s.tick := rfl
@[simp] theorem countElapsed_lineIn (c : Config) : (s.countElapsed c).lineIn = s.lineIn := rfl
@[simp] theorem countElapsed_hostIn (c : Config) : (s.countElapsed c).hostIn = s.hostIn := rfl
@[simp] theorem countElapsed_hrdata (c : Config) : (s.countElapsed c).hrdata = s.hrdata := rfl

/-! ### countPoll -/

@[simp] theorem countPoll_phase (c : Config) : (s.countPoll c).phase = s.phase := rfl
@[simp] theorem countPoll_fb (c : Config) : (s.countPoll c).fb = s.fb := rfl
@[simp] theorem countPoll_nbytes (c : Config) : (s.countPoll c).nbytes = s.nbytes := rfl
@[simp] theorem countPoll_mode (c : Config) : (s.countPoll c).mode = s.mode := rfl
@[simp] theorem countPoll_mi (c : Config) : (s.countPoll c).mi = s.mi := rfl
@[simp] theorem countPoll_timeout (c : Config) : (s.countPoll c).timeout = s.timeout := rfl
@[simp] theorem countPoll_seg (c : Config) : (s.countPoll c).seg = s.seg := rfl
@[simp] theorem countPoll_bitPos (c : Config) : (s.countPoll c).bitPos = s.bitPos := rfl
@[simp] theorem countPoll_byteIdx (c : Config) : (s.countPoll c).byteIdx = s.byteIdx := rfl
@[simp] theorem countPoll_el (c : Config) : (s.countPoll c).el = saturate c (s.el + 1) := rfl
@[simp] theorem countPoll_poll (c : Config) : (s.countPoll c).poll = s.poll + 1 := rfl
@[simp] theorem countPoll_lrLastLow (c : Config) : (s.countPoll c).lrLastLow = s.lrLastLow := rfl
@[simp] theorem countPoll_mp (c : Config) : (s.countPoll c).mp = s.mp := rfl
@[simp] theorem countPoll_mc (c : Config) : (s.countPoll c).mc = s.mc := rfl
@[simp] theorem countPoll_acc (c : Config) : (s.countPoll c).acc = s.acc := rfl
@[simp] theorem countPoll_bitCnt (c : Config) : (s.countPoll c).bitCnt = s.bitCnt := rfl
@[simp] theorem countPoll_gapNoted (c : Config) : (s.countPoll c).gapNoted = s.gapNoted := rfl
@[simp] theorem countPoll_evbuf (c : Config) : (s.countPoll c).evbuf = s.evbuf := rfl
@[simp] theorem countPoll_evRdy (c : Config) : (s.countPoll c).evRdy = s.evRdy := rfl
@[simp] theorem countPoll_evOvf (c : Config) : (s.countPoll c).evOvf = s.evOvf := rfl
@[simp] theorem countPoll_dir (c : Config) : (s.countPoll c).dir = s.dir := rfl
@[simp] theorem countPoll_lineOut (c : Config) : (s.countPoll c).lineOut = s.lineOut := rfl
@[simp] theorem countPoll_bound (c : Config) : (s.countPoll c).bound = s.bound := rfl
@[simp] theorem countPoll_pin (c : Config) : (s.countPoll c).pin = s.pin := rfl
@[simp] theorem countPoll_rej (c : Config) : (s.countPoll c).rej = s.rej := rfl
@[simp] theorem countPoll_rcause (c : Config) : (s.countPoll c).rcause = s.rcause := rfl
@[simp] theorem countPoll_lrto (c : Config) : (s.countPoll c).lrto = s.lrto := rfl
@[simp] theorem countPoll_padcut (c : Config) : (s.countPoll c).padcut = s.padcut := rfl
@[simp] theorem countPoll_diagRate (c : Config) : (s.countPoll c).diagRate = s.diagRate := rfl
@[simp] theorem countPoll_cmdLo (c : Config) : (s.countPoll c).cmdLo = s.cmdLo := rfl
@[simp] theorem countPoll_cmdHi (c : Config) : (s.countPoll c).cmdHi = s.cmdHi := rfl
@[simp] theorem countPoll_lineId (c : Config) : (s.countPoll c).lineId = s.lineId := rfl
@[simp] theorem countPoll_tick (c : Config) : (s.countPoll c).tick = s.tick := rfl
@[simp] theorem countPoll_lineIn (c : Config) : (s.countPoll c).lineIn = s.lineIn := rfl
@[simp] theorem countPoll_hostIn (c : Config) : (s.countPoll c).hostIn = s.hostIn := rfl
@[simp] theorem countPoll_hrdata (c : Config) : (s.countPoll c).hrdata = s.hrdata := rfl

/-! ### countSegment -/

@[simp] theorem countSegment_phase (c : Config) : (s.countSegment c).phase = s.phase := rfl
@[simp] theorem countSegment_fb (c : Config) : (s.countSegment c).fb = s.fb := rfl
@[simp] theorem countSegment_nbytes (c : Config) : (s.countSegment c).nbytes = s.nbytes := rfl
@[simp] theorem countSegment_mode (c : Config) : (s.countSegment c).mode = s.mode := rfl
@[simp] theorem countSegment_mi (c : Config) : (s.countSegment c).mi = s.mi := rfl
@[simp] theorem countSegment_timeout (c : Config) : (s.countSegment c).timeout = s.timeout := rfl
@[simp] theorem countSegment_seg (c : Config) : (s.countSegment c).seg = s.seg + 1 := rfl
@[simp] theorem countSegment_bitPos (c : Config) : (s.countSegment c).bitPos = s.bitPos := rfl
@[simp] theorem countSegment_byteIdx (c : Config) : (s.countSegment c).byteIdx = s.byteIdx := rfl
@[simp] theorem countSegment_el (c : Config) : (s.countSegment c).el = saturate c (s.el + 1) := rfl
@[simp] theorem countSegment_poll (c : Config) : (s.countSegment c).poll = s.poll := rfl
@[simp] theorem countSegment_lrLastLow (c : Config) :
    (s.countSegment c).lrLastLow = s.lrLastLow := rfl
@[simp] theorem countSegment_mp (c : Config) : (s.countSegment c).mp = s.mp := rfl
@[simp] theorem countSegment_mc (c : Config) : (s.countSegment c).mc = s.mc := rfl
@[simp] theorem countSegment_acc (c : Config) : (s.countSegment c).acc = s.acc := rfl
@[simp] theorem countSegment_bitCnt (c : Config) : (s.countSegment c).bitCnt = s.bitCnt := rfl
@[simp] theorem countSegment_gapNoted (c : Config) : (s.countSegment c).gapNoted = s.gapNoted := rfl
@[simp] theorem countSegment_evbuf (c : Config) : (s.countSegment c).evbuf = s.evbuf := rfl
@[simp] theorem countSegment_evRdy (c : Config) : (s.countSegment c).evRdy = s.evRdy := rfl
@[simp] theorem countSegment_evOvf (c : Config) : (s.countSegment c).evOvf = s.evOvf := rfl
@[simp] theorem countSegment_dir (c : Config) : (s.countSegment c).dir = s.dir := rfl
@[simp] theorem countSegment_lineOut (c : Config) : (s.countSegment c).lineOut = s.lineOut := rfl
@[simp] theorem countSegment_bound (c : Config) : (s.countSegment c).bound = s.bound := rfl
@[simp] theorem countSegment_pin (c : Config) : (s.countSegment c).pin = s.pin := rfl
@[simp] theorem countSegment_rej (c : Config) : (s.countSegment c).rej = s.rej := rfl
@[simp] theorem countSegment_rcause (c : Config) : (s.countSegment c).rcause = s.rcause := rfl
@[simp] theorem countSegment_lrto (c : Config) : (s.countSegment c).lrto = s.lrto := rfl
@[simp] theorem countSegment_padcut (c : Config) : (s.countSegment c).padcut = s.padcut := rfl
@[simp] theorem countSegment_diagRate (c : Config) : (s.countSegment c).diagRate = s.diagRate := rfl
@[simp] theorem countSegment_cmdLo (c : Config) : (s.countSegment c).cmdLo = s.cmdLo := rfl
@[simp] theorem countSegment_cmdHi (c : Config) : (s.countSegment c).cmdHi = s.cmdHi := rfl
@[simp] theorem countSegment_lineId (c : Config) : (s.countSegment c).lineId = s.lineId := rfl
@[simp] theorem countSegment_tick (c : Config) : (s.countSegment c).tick = s.tick := rfl
@[simp] theorem countSegment_lineIn (c : Config) : (s.countSegment c).lineIn = s.lineIn := rfl
@[simp] theorem countSegment_hostIn (c : Config) : (s.countSegment c).hostIn = s.hostIn := rfl
@[simp] theorem countSegment_hrdata (c : Config) : (s.countSegment c).hrdata = s.hrdata := rfl

/-! ### startFrame -/

@[simp] theorem startFrame_phase : (s.startFrame).phase = .syncLo := rfl
@[simp] theorem startFrame_fb : (s.startFrame).fb = s.fb := rfl
@[simp] theorem startFrame_nbytes : (s.startFrame).nbytes = s.nbytes := rfl
@[simp] theorem startFrame_mode : (s.startFrame).mode = s.mode := rfl
@[simp] theorem startFrame_mi : (s.startFrame).mi = s.mi := rfl
@[simp] theorem startFrame_timeout : (s.startFrame).timeout = s.timeout := rfl
@[simp] theorem startFrame_seg : (s.startFrame).seg = 0 := rfl
@[simp] theorem startFrame_bitPos : (s.startFrame).bitPos = s.bitPos := rfl
@[simp] theorem startFrame_byteIdx : (s.startFrame).byteIdx = s.byteIdx := rfl
@[simp] theorem startFrame_el : (s.startFrame).el = 0 := rfl
@[simp] theorem startFrame_poll : (s.startFrame).poll = s.poll := rfl
@[simp] theorem startFrame_lrLastLow : (s.startFrame).lrLastLow = s.lrLastLow := rfl
@[simp] theorem startFrame_mp : (s.startFrame).mp = s.mp := rfl
@[simp] theorem startFrame_mc : (s.startFrame).mc = s.mc := rfl
@[simp] theorem startFrame_acc : (s.startFrame).acc = s.acc := rfl
@[simp] theorem startFrame_bitCnt : (s.startFrame).bitCnt = s.bitCnt := rfl
@[simp] theorem startFrame_gapNoted : (s.startFrame).gapNoted = s.gapNoted := rfl
@[simp] theorem startFrame_evbuf : (s.startFrame).evbuf = s.evbuf := rfl
@[simp] theorem startFrame_evRdy : (s.startFrame).evRdy = s.evRdy := rfl
@[simp] theorem startFrame_evOvf : (s.startFrame).evOvf = s.evOvf := rfl
@[simp] theorem startFrame_dir : (s.startFrame).dir = true := rfl
@[simp] theorem startFrame_lineOut : (s.startFrame).lineOut = false := rfl
@[simp] theorem startFrame_bound : (s.startFrame).bound = s.bound := rfl
@[simp] theorem startFrame_pin : (s.startFrame).pin = s.pin := rfl
@[simp] theorem startFrame_rej : (s.startFrame).rej = s.rej := rfl
@[simp] theorem startFrame_rcause : (s.startFrame).rcause = s.rcause := rfl
@[simp] theorem startFrame_lrto : (s.startFrame).lrto = s.lrto := rfl
@[simp] theorem startFrame_padcut : (s.startFrame).padcut = s.padcut := rfl
@[simp] theorem startFrame_diagRate : (s.startFrame).diagRate = s.diagRate := rfl
@[simp] theorem startFrame_cmdLo : (s.startFrame).cmdLo = s.cmdLo := rfl
@[simp] theorem startFrame_cmdHi : (s.startFrame).cmdHi = s.cmdHi := rfl
@[simp] theorem startFrame_lineId : (s.startFrame).lineId = s.lineId := rfl
@[simp] theorem startFrame_tick : (s.startFrame).tick = s.tick := rfl
@[simp] theorem startFrame_lineIn : (s.startFrame).lineIn = s.lineIn := rfl
@[simp] theorem startFrame_hostIn : (s.startFrame).hostIn = s.hostIn := rfl
@[simp] theorem startFrame_hrdata : (s.startFrame).hrdata = s.hrdata := rfl

/-! ### recordPoll -/

@[simp] theorem recordPoll_phase (l : Level) : (s.recordPoll l).phase = s.phase := rfl
@[simp] theorem recordPoll_fb (l : Level) : (s.recordPoll l).fb = s.fb := rfl
@[simp] theorem recordPoll_nbytes (l : Level) : (s.recordPoll l).nbytes = s.nbytes := rfl
@[simp] theorem recordPoll_mode (l : Level) : (s.recordPoll l).mode = s.mode := rfl
@[simp] theorem recordPoll_mi (l : Level) : (s.recordPoll l).mi = s.mi := rfl
@[simp] theorem recordPoll_timeout (l : Level) : (s.recordPoll l).timeout = s.timeout := rfl
@[simp] theorem recordPoll_seg (l : Level) : (s.recordPoll l).seg = s.seg := rfl
@[simp] theorem recordPoll_bitPos (l : Level) : (s.recordPoll l).bitPos = s.bitPos := rfl
@[simp] theorem recordPoll_byteIdx (l : Level) : (s.recordPoll l).byteIdx = s.byteIdx := rfl
@[simp] theorem recordPoll_el (l : Level) : (s.recordPoll l).el = s.el := rfl
@[simp] theorem recordPoll_poll (l : Level) : (s.recordPoll l).poll = 0 := rfl
@[simp] theorem recordPoll_lrLastLow (l : Level) :
    (s.recordPoll l).lrLastLow = if l then s.lrLastLow else s.el := rfl
@[simp] theorem recordPoll_mp (l : Level) : (s.recordPoll l).mp = s.mp := rfl
@[simp] theorem recordPoll_mc (l : Level) : (s.recordPoll l).mc = s.mc := rfl
@[simp] theorem recordPoll_acc (l : Level) : (s.recordPoll l).acc = s.acc := rfl
@[simp] theorem recordPoll_bitCnt (l : Level) : (s.recordPoll l).bitCnt = s.bitCnt := rfl
@[simp] theorem recordPoll_gapNoted (l : Level) : (s.recordPoll l).gapNoted = s.gapNoted := rfl
@[simp] theorem recordPoll_evbuf (l : Level) : (s.recordPoll l).evbuf = s.evbuf := rfl
@[simp] theorem recordPoll_evRdy (l : Level) : (s.recordPoll l).evRdy = s.evRdy := rfl
@[simp] theorem recordPoll_evOvf (l : Level) : (s.recordPoll l).evOvf = s.evOvf := rfl
@[simp] theorem recordPoll_dir (l : Level) : (s.recordPoll l).dir = s.dir := rfl
@[simp] theorem recordPoll_lineOut (l : Level) : (s.recordPoll l).lineOut = s.lineOut := rfl
@[simp] theorem recordPoll_bound (l : Level) : (s.recordPoll l).bound = s.bound := rfl
@[simp] theorem recordPoll_pin (l : Level) : (s.recordPoll l).pin = s.pin := rfl
@[simp] theorem recordPoll_rej (l : Level) : (s.recordPoll l).rej = s.rej := rfl
@[simp] theorem recordPoll_rcause (l : Level) : (s.recordPoll l).rcause = s.rcause := rfl
@[simp] theorem recordPoll_lrto (l : Level) : (s.recordPoll l).lrto = s.lrto := rfl
@[simp] theorem recordPoll_padcut (l : Level) : (s.recordPoll l).padcut = s.padcut := rfl
@[simp] theorem recordPoll_diagRate (l : Level) : (s.recordPoll l).diagRate = s.diagRate := rfl
@[simp] theorem recordPoll_cmdLo (l : Level) : (s.recordPoll l).cmdLo = s.cmdLo := rfl
@[simp] theorem recordPoll_cmdHi (l : Level) : (s.recordPoll l).cmdHi = s.cmdHi := rfl
@[simp] theorem recordPoll_lineId (l : Level) : (s.recordPoll l).lineId = s.lineId := rfl
@[simp] theorem recordPoll_tick (l : Level) : (s.recordPoll l).tick = s.tick := rfl
@[simp] theorem recordPoll_lineIn (l : Level) : (s.recordPoll l).lineIn = s.lineIn := rfl
@[simp] theorem recordPoll_hostIn (l : Level) : (s.recordPoll l).hostIn = s.hostIn := rfl
@[simp] theorem recordPoll_hrdata (l : Level) : (s.recordPoll l).hrdata = s.hrdata := rfl

/-! ### endMark -/

@[simp] theorem endMark_phase (p : Phase) : (s.endMark p).phase = p := rfl
@[simp] theorem endMark_fb (p : Phase) : (s.endMark p).fb = s.fb := rfl
@[simp] theorem endMark_nbytes (p : Phase) : (s.endMark p).nbytes = s.nbytes := rfl
@[simp] theorem endMark_mode (p : Phase) : (s.endMark p).mode = s.mode := rfl
@[simp] theorem endMark_mi (p : Phase) : (s.endMark p).mi = s.mi := rfl
@[simp] theorem endMark_timeout (p : Phase) : (s.endMark p).timeout = s.timeout := rfl
@[simp] theorem endMark_seg (p : Phase) : (s.endMark p).seg = 0 := rfl
@[simp] theorem endMark_bitPos (p : Phase) : (s.endMark p).bitPos = s.bitPos := rfl
@[simp] theorem endMark_byteIdx (p : Phase) : (s.endMark p).byteIdx = s.byteIdx := rfl
@[simp] theorem endMark_el (p : Phase) : (s.endMark p).el = s.el := rfl
@[simp] theorem endMark_poll (p : Phase) : (s.endMark p).poll = s.poll := rfl
@[simp] theorem endMark_lrLastLow (p : Phase) : (s.endMark p).lrLastLow = s.lrLastLow := rfl
@[simp] theorem endMark_mp (p : Phase) : (s.endMark p).mp = s.mp := rfl
@[simp] theorem endMark_mc (p : Phase) : (s.endMark p).mc = s.mc := rfl
@[simp] theorem endMark_acc (p : Phase) : (s.endMark p).acc = s.acc := rfl
@[simp] theorem endMark_bitCnt (p : Phase) : (s.endMark p).bitCnt = s.bitCnt := rfl
@[simp] theorem endMark_gapNoted (p : Phase) : (s.endMark p).gapNoted = s.gapNoted := rfl
@[simp] theorem endMark_evbuf (p : Phase) : (s.endMark p).evbuf = s.evbuf := rfl
@[simp] theorem endMark_evRdy (p : Phase) : (s.endMark p).evRdy = s.evRdy := rfl
@[simp] theorem endMark_evOvf (p : Phase) : (s.endMark p).evOvf = s.evOvf := rfl
@[simp] theorem endMark_dir (p : Phase) : (s.endMark p).dir = s.dir := rfl
@[simp] theorem endMark_lineOut (p : Phase) : (s.endMark p).lineOut = true := rfl
@[simp] theorem endMark_bound (p : Phase) : (s.endMark p).bound = s.bound := rfl
@[simp] theorem endMark_pin (p : Phase) : (s.endMark p).pin = s.pin := rfl
@[simp] theorem endMark_rej (p : Phase) : (s.endMark p).rej = s.rej := rfl
@[simp] theorem endMark_rcause (p : Phase) : (s.endMark p).rcause = s.rcause := rfl
@[simp] theorem endMark_lrto (p : Phase) : (s.endMark p).lrto = s.lrto := rfl
@[simp] theorem endMark_padcut (p : Phase) : (s.endMark p).padcut = s.padcut := rfl
@[simp] theorem endMark_diagRate (p : Phase) : (s.endMark p).diagRate = s.diagRate := rfl
@[simp] theorem endMark_cmdLo (p : Phase) : (s.endMark p).cmdLo = s.cmdLo := rfl
@[simp] theorem endMark_cmdHi (p : Phase) : (s.endMark p).cmdHi = s.cmdHi := rfl
@[simp] theorem endMark_lineId (p : Phase) : (s.endMark p).lineId = s.lineId := rfl
@[simp] theorem endMark_tick (p : Phase) : (s.endMark p).tick = s.tick := rfl
@[simp] theorem endMark_lineIn (p : Phase) : (s.endMark p).lineIn = s.lineIn := rfl
@[simp] theorem endMark_hostIn (p : Phase) : (s.endMark p).hostIn = s.hostIn := rfl
@[simp] theorem endMark_hrdata (p : Phase) : (s.endMark p).hrdata = s.hrdata := rfl

/-! ### startBit -/

@[simp] theorem startBit_phase (j : BitVec 2) (k : BitVec 3) :
    (s.startBit j k).phase = .bitLo := rfl
@[simp] theorem startBit_fb (j : BitVec 2) (k : BitVec 3) : (s.startBit j k).fb = s.fb := rfl
@[simp] theorem startBit_nbytes (j : BitVec 2) (k : BitVec 3) :
    (s.startBit j k).nbytes = s.nbytes := rfl
@[simp] theorem startBit_mode (j : BitVec 2) (k : BitVec 3) : (s.startBit j k).mode = s.mode := rfl
@[simp] theorem startBit_mi (j : BitVec 2) (k : BitVec 3) : (s.startBit j k).mi = s.mi := rfl
@[simp] theorem startBit_timeout (j : BitVec 2) (k : BitVec 3) :
    (s.startBit j k).timeout = s.timeout := rfl
@[simp] theorem startBit_seg (j : BitVec 2) (k : BitVec 3) : (s.startBit j k).seg = 0 := rfl
@[simp] theorem startBit_bitPos (j : BitVec 2) (k : BitVec 3) : (s.startBit j k).bitPos = k := rfl
@[simp] theorem startBit_byteIdx (j : BitVec 2) (k : BitVec 3) : (s.startBit j k).byteIdx = j := rfl
@[simp] theorem startBit_el (j : BitVec 2) (k : BitVec 3) : (s.startBit j k).el = s.el := rfl
@[simp] theorem startBit_poll (j : BitVec 2) (k : BitVec 3) : (s.startBit j k).poll = s.poll := rfl
@[simp] theorem startBit_lrLastLow (j : BitVec 2) (k : BitVec 3) :
    (s.startBit j k).lrLastLow = s.lrLastLow := rfl
@[simp] theorem startBit_mp (j : BitVec 2) (k : BitVec 3) : (s.startBit j k).mp = s.mp := rfl
@[simp] theorem startBit_mc (j : BitVec 2) (k : BitVec 3) : (s.startBit j k).mc = s.mc := rfl
@[simp] theorem startBit_acc (j : BitVec 2) (k : BitVec 3) : (s.startBit j k).acc = s.acc := rfl
@[simp] theorem startBit_bitCnt (j : BitVec 2) (k : BitVec 3) :
    (s.startBit j k).bitCnt = s.bitCnt := rfl
@[simp] theorem startBit_gapNoted (j : BitVec 2) (k : BitVec 3) :
    (s.startBit j k).gapNoted = s.gapNoted := rfl
@[simp] theorem startBit_evbuf (j : BitVec 2) (k : BitVec 3) :
    (s.startBit j k).evbuf = s.evbuf := rfl
@[simp] theorem startBit_evRdy (j : BitVec 2) (k : BitVec 3) :
    (s.startBit j k).evRdy = s.evRdy := rfl
@[simp] theorem startBit_evOvf (j : BitVec 2) (k : BitVec 3) :
    (s.startBit j k).evOvf = s.evOvf := rfl
@[simp] theorem startBit_dir (j : BitVec 2) (k : BitVec 3) : (s.startBit j k).dir = s.dir := rfl
@[simp] theorem startBit_lineOut (j : BitVec 2) (k : BitVec 3) :
    (s.startBit j k).lineOut = false := rfl
@[simp] theorem startBit_bound (j : BitVec 2) (k : BitVec 3) :
    (s.startBit j k).bound = s.bound := rfl
@[simp] theorem startBit_pin (j : BitVec 2) (k : BitVec 3) : (s.startBit j k).pin = s.pin := rfl
@[simp] theorem startBit_rej (j : BitVec 2) (k : BitVec 3) : (s.startBit j k).rej = s.rej := rfl
@[simp] theorem startBit_rcause (j : BitVec 2) (k : BitVec 3) :
    (s.startBit j k).rcause = s.rcause := rfl
@[simp] theorem startBit_lrto (j : BitVec 2) (k : BitVec 3) : (s.startBit j k).lrto = s.lrto := rfl
@[simp] theorem startBit_padcut (j : BitVec 2) (k : BitVec 3) :
    (s.startBit j k).padcut = s.padcut := rfl
@[simp] theorem startBit_diagRate (j : BitVec 2) (k : BitVec 3) :
    (s.startBit j k).diagRate = s.diagRate := rfl
@[simp] theorem startBit_cmdLo (j : BitVec 2) (k : BitVec 3) :
    (s.startBit j k).cmdLo = s.cmdLo := rfl
@[simp] theorem startBit_cmdHi (j : BitVec 2) (k : BitVec 3) :
    (s.startBit j k).cmdHi = s.cmdHi := rfl
@[simp] theorem startBit_lineId (j : BitVec 2) (k : BitVec 3) :
    (s.startBit j k).lineId = s.lineId := rfl
@[simp] theorem startBit_tick (j : BitVec 2) (k : BitVec 3) : (s.startBit j k).tick = s.tick := rfl
@[simp] theorem startBit_lineIn (j : BitVec 2) (k : BitVec 3) :
    (s.startBit j k).lineIn = s.lineIn := rfl
@[simp] theorem startBit_hostIn (j : BitVec 2) (k : BitVec 3) :
    (s.startBit j k).hostIn = s.hostIn := rfl
@[simp] theorem startBit_hrdata (j : BitVec 2) (k : BitVec 3) :
    (s.startBit j k).hrdata = s.hrdata := rfl

/-! ### endFrame -/

@[simp] theorem endFrame_phase (c : Config) :
    (s.endFrame c).phase = if c.tFrame ≤ s.el then .idle else .pad := rfl
@[simp] theorem endFrame_fb (c : Config) : (s.endFrame c).fb = s.fb := rfl
@[simp] theorem endFrame_nbytes (c : Config) : (s.endFrame c).nbytes = s.nbytes := rfl
@[simp] theorem endFrame_mode (c : Config) : (s.endFrame c).mode = s.mode := rfl
@[simp] theorem endFrame_mi (c : Config) : (s.endFrame c).mi = s.mi := rfl
@[simp] theorem endFrame_timeout (c : Config) : (s.endFrame c).timeout = s.timeout := rfl
@[simp] theorem endFrame_seg (c : Config) : (s.endFrame c).seg = 0 := rfl
@[simp] theorem endFrame_bitPos (c : Config) : (s.endFrame c).bitPos = s.bitPos := rfl
@[simp] theorem endFrame_byteIdx (c : Config) : (s.endFrame c).byteIdx = s.byteIdx := rfl
@[simp] theorem endFrame_el (c : Config) : (s.endFrame c).el = s.el := rfl
@[simp] theorem endFrame_poll (c : Config) : (s.endFrame c).poll = 0 := rfl
@[simp] theorem endFrame_lrLastLow (c : Config) : (s.endFrame c).lrLastLow = s.lrLastLow := rfl
@[simp] theorem endFrame_mp (c : Config) : (s.endFrame c).mp = s.mp := rfl
@[simp] theorem endFrame_mc (c : Config) : (s.endFrame c).mc = s.mc := rfl
@[simp] theorem endFrame_acc (c : Config) : (s.endFrame c).acc = s.acc := rfl
@[simp] theorem endFrame_bitCnt (c : Config) : (s.endFrame c).bitCnt = s.bitCnt := rfl
@[simp] theorem endFrame_gapNoted (c : Config) : (s.endFrame c).gapNoted = s.gapNoted := rfl
@[simp] theorem endFrame_evbuf (c : Config) : (s.endFrame c).evbuf = s.evbuf := rfl
@[simp] theorem endFrame_evRdy (c : Config) : (s.endFrame c).evRdy = s.evRdy := rfl
@[simp] theorem endFrame_evOvf (c : Config) : (s.endFrame c).evOvf = s.evOvf := rfl
@[simp] theorem endFrame_dir (c : Config) : (s.endFrame c).dir = false := rfl
@[simp] theorem endFrame_lineOut (c : Config) : (s.endFrame c).lineOut = s.lineOut := rfl
@[simp] theorem endFrame_bound (c : Config) : (s.endFrame c).bound = s.bound := rfl
@[simp] theorem endFrame_pin (c : Config) : (s.endFrame c).pin = s.pin := rfl
@[simp] theorem endFrame_rej (c : Config) : (s.endFrame c).rej = s.rej := rfl
@[simp] theorem endFrame_rcause (c : Config) : (s.endFrame c).rcause = s.rcause := rfl
@[simp] theorem endFrame_lrto (c : Config) : (s.endFrame c).lrto = s.lrto := rfl
@[simp] theorem endFrame_padcut (c : Config) : (s.endFrame c).padcut = s.padcut := rfl
@[simp] theorem endFrame_diagRate (c : Config) : (s.endFrame c).diagRate = s.diagRate := rfl
@[simp] theorem endFrame_cmdLo (c : Config) : (s.endFrame c).cmdLo = s.cmdLo := rfl
@[simp] theorem endFrame_cmdHi (c : Config) : (s.endFrame c).cmdHi = s.cmdHi := rfl
@[simp] theorem endFrame_lineId (c : Config) : (s.endFrame c).lineId = s.lineId := rfl
@[simp] theorem endFrame_tick (c : Config) : (s.endFrame c).tick = s.tick := rfl
@[simp] theorem endFrame_lineIn (c : Config) : (s.endFrame c).lineIn = s.lineIn := rfl
@[simp] theorem endFrame_hostIn (c : Config) : (s.endFrame c).hostIn = s.hostIn := rfl
@[simp] theorem endFrame_hrdata (c : Config) : (s.endFrame c).hrdata = s.hrdata := rfl

/-! ### clearByte -/

@[simp] theorem clearByte_phase : (s.clearByte).phase = s.phase := rfl
@[simp] theorem clearByte_fb : (s.clearByte).fb = s.fb := rfl
@[simp] theorem clearByte_nbytes : (s.clearByte).nbytes = s.nbytes := rfl
@[simp] theorem clearByte_mode : (s.clearByte).mode = s.mode := rfl
@[simp] theorem clearByte_mi : (s.clearByte).mi = s.mi := rfl
@[simp] theorem clearByte_timeout : (s.clearByte).timeout = s.timeout := rfl
@[simp] theorem clearByte_seg : (s.clearByte).seg = s.seg := rfl
@[simp] theorem clearByte_bitPos : (s.clearByte).bitPos = s.bitPos := rfl
@[simp] theorem clearByte_byteIdx : (s.clearByte).byteIdx = s.byteIdx := rfl
@[simp] theorem clearByte_el : (s.clearByte).el = s.el := rfl
@[simp] theorem clearByte_poll : (s.clearByte).poll = s.poll := rfl
@[simp] theorem clearByte_lrLastLow : (s.clearByte).lrLastLow = s.lrLastLow := rfl
@[simp] theorem clearByte_mp : (s.clearByte).mp = s.mp := rfl
@[simp] theorem clearByte_mc : (s.clearByte).mc = s.mc := rfl
@[simp] theorem clearByte_acc : (s.clearByte).acc = 0 := rfl
@[simp] theorem clearByte_bitCnt : (s.clearByte).bitCnt = 0 := rfl
@[simp] theorem clearByte_gapNoted : (s.clearByte).gapNoted = s.gapNoted := rfl
@[simp] theorem clearByte_evbuf : (s.clearByte).evbuf = s.evbuf := rfl
@[simp] theorem clearByte_evRdy : (s.clearByte).evRdy = s.evRdy := rfl
@[simp] theorem clearByte_evOvf : (s.clearByte).evOvf = s.evOvf := rfl
@[simp] theorem clearByte_dir : (s.clearByte).dir = s.dir := rfl
@[simp] theorem clearByte_lineOut : (s.clearByte).lineOut = s.lineOut := rfl
@[simp] theorem clearByte_bound : (s.clearByte).bound = s.bound := rfl
@[simp] theorem clearByte_pin : (s.clearByte).pin = s.pin := rfl
@[simp] theorem clearByte_rej : (s.clearByte).rej = s.rej := rfl
@[simp] theorem clearByte_rcause : (s.clearByte).rcause = s.rcause := rfl
@[simp] theorem clearByte_lrto : (s.clearByte).lrto = s.lrto := rfl
@[simp] theorem clearByte_padcut : (s.clearByte).padcut = s.padcut := rfl
@[simp] theorem clearByte_diagRate : (s.clearByte).diagRate = s.diagRate := rfl
@[simp] theorem clearByte_cmdLo : (s.clearByte).cmdLo = s.cmdLo := rfl
@[simp] theorem clearByte_cmdHi : (s.clearByte).cmdHi = s.cmdHi := rfl
@[simp] theorem clearByte_lineId : (s.clearByte).lineId = s.lineId := rfl
@[simp] theorem clearByte_tick : (s.clearByte).tick = s.tick := rfl
@[simp] theorem clearByte_lineIn : (s.clearByte).lineIn = s.lineIn := rfl
@[simp] theorem clearByte_hostIn : (s.clearByte).hostIn = s.hostIn := rfl
@[simp] theorem clearByte_hrdata : (s.clearByte).hrdata = s.hrdata := rfl

/-! ### setAccBit -/

@[simp] theorem setAccBit_phase : (s.setAccBit).phase = s.phase := rfl
@[simp] theorem setAccBit_fb : (s.setAccBit).fb = s.fb := rfl
@[simp] theorem setAccBit_nbytes : (s.setAccBit).nbytes = s.nbytes := rfl
@[simp] theorem setAccBit_mode : (s.setAccBit).mode = s.mode := rfl
@[simp] theorem setAccBit_mi : (s.setAccBit).mi = s.mi := rfl
@[simp] theorem setAccBit_timeout : (s.setAccBit).timeout = s.timeout := rfl
@[simp] theorem setAccBit_seg : (s.setAccBit).seg = s.seg := rfl
@[simp] theorem setAccBit_bitPos : (s.setAccBit).bitPos = s.bitPos := rfl
@[simp] theorem setAccBit_byteIdx : (s.setAccBit).byteIdx = s.byteIdx := rfl
@[simp] theorem setAccBit_el : (s.setAccBit).el = s.el := rfl
@[simp] theorem setAccBit_poll : (s.setAccBit).poll = s.poll := rfl
@[simp] theorem setAccBit_lrLastLow : (s.setAccBit).lrLastLow = s.lrLastLow := rfl
@[simp] theorem setAccBit_mp : (s.setAccBit).mp = s.mp := rfl
@[simp] theorem setAccBit_mc : (s.setAccBit).mc = s.mc := rfl
@[simp] theorem setAccBit_acc : (s.setAccBit).acc = s.acc ||| (0x80#8 >>> s.bitCnt.toNat) := rfl
@[simp] theorem setAccBit_bitCnt : (s.setAccBit).bitCnt = s.bitCnt := rfl
@[simp] theorem setAccBit_gapNoted : (s.setAccBit).gapNoted = s.gapNoted := rfl
@[simp] theorem setAccBit_evbuf : (s.setAccBit).evbuf = s.evbuf := rfl
@[simp] theorem setAccBit_evRdy : (s.setAccBit).evRdy = s.evRdy := rfl
@[simp] theorem setAccBit_evOvf : (s.setAccBit).evOvf = s.evOvf := rfl
@[simp] theorem setAccBit_dir : (s.setAccBit).dir = s.dir := rfl
@[simp] theorem setAccBit_lineOut : (s.setAccBit).lineOut = s.lineOut := rfl
@[simp] theorem setAccBit_bound : (s.setAccBit).bound = s.bound := rfl
@[simp] theorem setAccBit_pin : (s.setAccBit).pin = s.pin := rfl
@[simp] theorem setAccBit_rej : (s.setAccBit).rej = s.rej := rfl
@[simp] theorem setAccBit_rcause : (s.setAccBit).rcause = s.rcause := rfl
@[simp] theorem setAccBit_lrto : (s.setAccBit).lrto = s.lrto := rfl
@[simp] theorem setAccBit_padcut : (s.setAccBit).padcut = s.padcut := rfl
@[simp] theorem setAccBit_diagRate : (s.setAccBit).diagRate = s.diagRate := rfl
@[simp] theorem setAccBit_cmdLo : (s.setAccBit).cmdLo = s.cmdLo := rfl
@[simp] theorem setAccBit_cmdHi : (s.setAccBit).cmdHi = s.cmdHi := rfl
@[simp] theorem setAccBit_lineId : (s.setAccBit).lineId = s.lineId := rfl
@[simp] theorem setAccBit_tick : (s.setAccBit).tick = s.tick := rfl
@[simp] theorem setAccBit_lineIn : (s.setAccBit).lineIn = s.lineIn := rfl
@[simp] theorem setAccBit_hostIn : (s.setAccBit).hostIn = s.hostIn := rfl
@[simp] theorem setAccBit_hrdata : (s.setAccBit).hrdata = s.hrdata := rfl

/-! ### enterStep -/

@[simp] theorem enterStep_phase (m : MeasStep) : (s.enterStep m).phase = s.phase := rfl
@[simp] theorem enterStep_fb (m : MeasStep) : (s.enterStep m).fb = s.fb := rfl
@[simp] theorem enterStep_nbytes (m : MeasStep) : (s.enterStep m).nbytes = s.nbytes := rfl
@[simp] theorem enterStep_mode (m : MeasStep) : (s.enterStep m).mode = s.mode := rfl
@[simp] theorem enterStep_mi (m : MeasStep) : (s.enterStep m).mi = s.mi := rfl
@[simp] theorem enterStep_timeout (m : MeasStep) : (s.enterStep m).timeout = s.timeout := rfl
@[simp] theorem enterStep_seg (m : MeasStep) : (s.enterStep m).seg = s.seg := rfl
@[simp] theorem enterStep_bitPos (m : MeasStep) : (s.enterStep m).bitPos = s.bitPos := rfl
@[simp] theorem enterStep_byteIdx (m : MeasStep) : (s.enterStep m).byteIdx = s.byteIdx := rfl
@[simp] theorem enterStep_el (m : MeasStep) : (s.enterStep m).el = s.el := rfl
@[simp] theorem enterStep_poll (m : MeasStep) : (s.enterStep m).poll = s.poll := rfl
@[simp] theorem enterStep_lrLastLow (m : MeasStep) : (s.enterStep m).lrLastLow = s.lrLastLow := rfl
@[simp] theorem enterStep_mp (m : MeasStep) : (s.enterStep m).mp = m := rfl
@[simp] theorem enterStep_mc (m : MeasStep) : (s.enterStep m).mc = 1 := rfl
@[simp] theorem enterStep_acc (m : MeasStep) : (s.enterStep m).acc = s.acc := rfl
@[simp] theorem enterStep_bitCnt (m : MeasStep) : (s.enterStep m).bitCnt = s.bitCnt := rfl
@[simp] theorem enterStep_gapNoted (m : MeasStep) : (s.enterStep m).gapNoted = s.gapNoted := rfl
@[simp] theorem enterStep_evbuf (m : MeasStep) : (s.enterStep m).evbuf = s.evbuf := rfl
@[simp] theorem enterStep_evRdy (m : MeasStep) : (s.enterStep m).evRdy = s.evRdy := rfl
@[simp] theorem enterStep_evOvf (m : MeasStep) : (s.enterStep m).evOvf = s.evOvf := rfl
@[simp] theorem enterStep_dir (m : MeasStep) : (s.enterStep m).dir = s.dir := rfl
@[simp] theorem enterStep_lineOut (m : MeasStep) : (s.enterStep m).lineOut = s.lineOut := rfl
@[simp] theorem enterStep_bound (m : MeasStep) : (s.enterStep m).bound = s.bound := rfl
@[simp] theorem enterStep_pin (m : MeasStep) : (s.enterStep m).pin = s.pin := rfl
@[simp] theorem enterStep_rej (m : MeasStep) : (s.enterStep m).rej = s.rej := rfl
@[simp] theorem enterStep_rcause (m : MeasStep) : (s.enterStep m).rcause = s.rcause := rfl
@[simp] theorem enterStep_lrto (m : MeasStep) : (s.enterStep m).lrto = s.lrto := rfl
@[simp] theorem enterStep_padcut (m : MeasStep) : (s.enterStep m).padcut = s.padcut := rfl
@[simp] theorem enterStep_diagRate (m : MeasStep) : (s.enterStep m).diagRate = s.diagRate := rfl
@[simp] theorem enterStep_cmdLo (m : MeasStep) : (s.enterStep m).cmdLo = s.cmdLo := rfl
@[simp] theorem enterStep_cmdHi (m : MeasStep) : (s.enterStep m).cmdHi = s.cmdHi := rfl
@[simp] theorem enterStep_lineId (m : MeasStep) : (s.enterStep m).lineId = s.lineId := rfl
@[simp] theorem enterStep_tick (m : MeasStep) : (s.enterStep m).tick = s.tick := rfl
@[simp] theorem enterStep_lineIn (m : MeasStep) : (s.enterStep m).lineIn = s.lineIn := rfl
@[simp] theorem enterStep_hostIn (m : MeasStep) : (s.enterStep m).hostIn = s.hostIn := rfl
@[simp] theorem enterStep_hrdata (m : MeasStep) : (s.enterStep m).hrdata = s.hrdata := rfl

/-! ### flush -/

@[simp] theorem flush_phase : (s.flush).phase = .idle := rfl
@[simp] theorem flush_fb : (s.flush).fb = s.fb := rfl
@[simp] theorem flush_nbytes : (s.flush).nbytes = s.nbytes := rfl
@[simp] theorem flush_mode : (s.flush).mode = s.mode := rfl
@[simp] theorem flush_mi : (s.flush).mi = s.mi := rfl
@[simp] theorem flush_timeout : (s.flush).timeout = s.timeout := rfl
@[simp] theorem flush_seg : (s.flush).seg = s.seg := rfl
@[simp] theorem flush_bitPos : (s.flush).bitPos = s.bitPos := rfl
@[simp] theorem flush_byteIdx : (s.flush).byteIdx = s.byteIdx := rfl
@[simp] theorem flush_el : (s.flush).el = s.el := rfl
@[simp] theorem flush_poll : (s.flush).poll = s.poll := rfl
@[simp] theorem flush_lrLastLow : (s.flush).lrLastLow = s.lrLastLow := rfl
@[simp] theorem flush_mp : (s.flush).mp = s.mp := rfl
@[simp] theorem flush_mc : (s.flush).mc = s.mc := rfl
@[simp] theorem flush_acc : (s.flush).acc = s.acc := rfl
@[simp] theorem flush_bitCnt : (s.flush).bitCnt = s.bitCnt := rfl
@[simp] theorem flush_gapNoted : (s.flush).gapNoted = s.gapNoted := rfl
@[simp] theorem flush_evbuf : (s.flush).evbuf = s.evbuf := rfl
@[simp] theorem flush_evRdy : (s.flush).evRdy = true := rfl
@[simp] theorem flush_evOvf : (s.flush).evOvf = s.evOvf := rfl
@[simp] theorem flush_dir : (s.flush).dir = s.dir := rfl
@[simp] theorem flush_lineOut : (s.flush).lineOut = s.lineOut := rfl
@[simp] theorem flush_bound : (s.flush).bound = s.bound := rfl
@[simp] theorem flush_pin : (s.flush).pin = s.pin := rfl
@[simp] theorem flush_rej : (s.flush).rej = s.rej := rfl
@[simp] theorem flush_rcause : (s.flush).rcause = s.rcause := rfl
@[simp] theorem flush_lrto : (s.flush).lrto = s.lrto := rfl
@[simp] theorem flush_padcut : (s.flush).padcut = s.padcut := rfl
@[simp] theorem flush_diagRate : (s.flush).diagRate = s.diagRate := rfl
@[simp] theorem flush_cmdLo : (s.flush).cmdLo = s.cmdLo := rfl
@[simp] theorem flush_cmdHi : (s.flush).cmdHi = s.cmdHi := rfl
@[simp] theorem flush_lineId : (s.flush).lineId = s.lineId := rfl
@[simp] theorem flush_tick : (s.flush).tick = s.tick := rfl
@[simp] theorem flush_lineIn : (s.flush).lineIn = s.lineIn := rfl
@[simp] theorem flush_hostIn : (s.flush).hostIn = s.hostIn := rfl
@[simp] theorem flush_hrdata : (s.flush).hrdata = s.hrdata := rfl

/-! ### startMeasurement -/

@[simp] theorem startMeasurement_phase : (s.startMeasurement).phase = s.phase := rfl
@[simp] theorem startMeasurement_fb : (s.startMeasurement).fb = s.fb := rfl
@[simp] theorem startMeasurement_nbytes : (s.startMeasurement).nbytes = s.nbytes := rfl
@[simp] theorem startMeasurement_mode : (s.startMeasurement).mode = s.mode := rfl
@[simp] theorem startMeasurement_mi : (s.startMeasurement).mi = s.mi := rfl
@[simp] theorem startMeasurement_timeout : (s.startMeasurement).timeout = s.timeout := rfl
@[simp] theorem startMeasurement_seg : (s.startMeasurement).seg = s.seg := rfl
@[simp] theorem startMeasurement_bitPos : (s.startMeasurement).bitPos = s.bitPos := rfl
@[simp] theorem startMeasurement_byteIdx : (s.startMeasurement).byteIdx = s.byteIdx := rfl
@[simp] theorem startMeasurement_el : (s.startMeasurement).el = s.el := rfl
@[simp] theorem startMeasurement_poll : (s.startMeasurement).poll = s.poll := rfl
@[simp] theorem startMeasurement_lrLastLow : (s.startMeasurement).lrLastLow = s.lrLastLow := rfl
@[simp] theorem startMeasurement_mp : (s.startMeasurement).mp = .waitOut := rfl
@[simp] theorem startMeasurement_mc : (s.startMeasurement).mc = 0 := rfl
@[simp] theorem startMeasurement_acc : (s.startMeasurement).acc = s.acc := rfl
@[simp] theorem startMeasurement_bitCnt : (s.startMeasurement).bitCnt = s.bitCnt := rfl
@[simp] theorem startMeasurement_gapNoted : (s.startMeasurement).gapNoted = s.gapNoted := rfl
@[simp] theorem startMeasurement_evbuf : (s.startMeasurement).evbuf = s.evbuf := rfl
@[simp] theorem startMeasurement_evRdy : (s.startMeasurement).evRdy = s.evRdy := rfl
@[simp] theorem startMeasurement_evOvf : (s.startMeasurement).evOvf = s.evOvf := rfl
@[simp] theorem startMeasurement_dir : (s.startMeasurement).dir = s.dir := rfl
@[simp] theorem startMeasurement_lineOut : (s.startMeasurement).lineOut = s.lineOut := rfl
@[simp] theorem startMeasurement_bound : (s.startMeasurement).bound = s.bound := rfl
@[simp] theorem startMeasurement_pin : (s.startMeasurement).pin = s.pin := rfl
@[simp] theorem startMeasurement_rej : (s.startMeasurement).rej = s.rej := rfl
@[simp] theorem startMeasurement_rcause : (s.startMeasurement).rcause = s.rcause := rfl
@[simp] theorem startMeasurement_lrto : (s.startMeasurement).lrto = s.lrto := rfl
@[simp] theorem startMeasurement_padcut : (s.startMeasurement).padcut = s.padcut := rfl
@[simp] theorem startMeasurement_diagRate : (s.startMeasurement).diagRate = s.diagRate := rfl
@[simp] theorem startMeasurement_cmdLo : (s.startMeasurement).cmdLo = s.cmdLo := rfl
@[simp] theorem startMeasurement_cmdHi : (s.startMeasurement).cmdHi = s.cmdHi := rfl
@[simp] theorem startMeasurement_lineId : (s.startMeasurement).lineId = s.lineId := rfl
@[simp] theorem startMeasurement_tick : (s.startMeasurement).tick = s.tick := rfl
@[simp] theorem startMeasurement_lineIn : (s.startMeasurement).lineIn = s.lineIn := rfl
@[simp] theorem startMeasurement_hostIn : (s.startMeasurement).hostIn = s.hostIn := rfl
@[simp] theorem startMeasurement_hrdata : (s.startMeasurement).hrdata = s.hrdata := rfl

/-! ### endTick -/

@[simp] theorem endTick_phase (r : Option Word) : (s.endTick r).phase = s.phase := rfl
@[simp] theorem endTick_fb (r : Option Word) : (s.endTick r).fb = s.fb := rfl
@[simp] theorem endTick_nbytes (r : Option Word) : (s.endTick r).nbytes = s.nbytes := rfl
@[simp] theorem endTick_mode (r : Option Word) : (s.endTick r).mode = s.mode := rfl
@[simp] theorem endTick_mi (r : Option Word) : (s.endTick r).mi = s.mi := rfl
@[simp] theorem endTick_timeout (r : Option Word) : (s.endTick r).timeout = s.timeout := rfl
@[simp] theorem endTick_seg (r : Option Word) : (s.endTick r).seg = s.seg := rfl
@[simp] theorem endTick_bitPos (r : Option Word) : (s.endTick r).bitPos = s.bitPos := rfl
@[simp] theorem endTick_byteIdx (r : Option Word) : (s.endTick r).byteIdx = s.byteIdx := rfl
@[simp] theorem endTick_el (r : Option Word) : (s.endTick r).el = s.el := rfl
@[simp] theorem endTick_poll (r : Option Word) : (s.endTick r).poll = s.poll := rfl
@[simp] theorem endTick_lrLastLow (r : Option Word) : (s.endTick r).lrLastLow = s.lrLastLow := rfl
@[simp] theorem endTick_mp (r : Option Word) : (s.endTick r).mp = s.mp := rfl
@[simp] theorem endTick_mc (r : Option Word) : (s.endTick r).mc = s.mc := rfl
@[simp] theorem endTick_acc (r : Option Word) : (s.endTick r).acc = s.acc := rfl
@[simp] theorem endTick_bitCnt (r : Option Word) : (s.endTick r).bitCnt = s.bitCnt := rfl
@[simp] theorem endTick_gapNoted (r : Option Word) : (s.endTick r).gapNoted = s.gapNoted := rfl
@[simp] theorem endTick_evbuf (r : Option Word) : (s.endTick r).evbuf = s.evbuf := rfl
@[simp] theorem endTick_evRdy (r : Option Word) : (s.endTick r).evRdy = s.evRdy := rfl
@[simp] theorem endTick_evOvf (r : Option Word) : (s.endTick r).evOvf = s.evOvf := rfl
@[simp] theorem endTick_dir (r : Option Word) : (s.endTick r).dir = s.dir := rfl
@[simp] theorem endTick_lineOut (r : Option Word) : (s.endTick r).lineOut = s.lineOut := rfl
@[simp] theorem endTick_bound (r : Option Word) : (s.endTick r).bound = s.bound := rfl
@[simp] theorem endTick_pin (r : Option Word) : (s.endTick r).pin = s.pin := rfl
@[simp] theorem endTick_rej (r : Option Word) : (s.endTick r).rej = s.rej := rfl
@[simp] theorem endTick_rcause (r : Option Word) : (s.endTick r).rcause = s.rcause := rfl
@[simp] theorem endTick_lrto (r : Option Word) : (s.endTick r).lrto = s.lrto := rfl
@[simp] theorem endTick_padcut (r : Option Word) : (s.endTick r).padcut = s.padcut := rfl
@[simp] theorem endTick_diagRate (r : Option Word) : (s.endTick r).diagRate = s.diagRate := rfl
@[simp] theorem endTick_cmdLo (r : Option Word) : (s.endTick r).cmdLo = s.cmdLo := rfl
@[simp] theorem endTick_cmdHi (r : Option Word) : (s.endTick r).cmdHi = s.cmdHi := rfl
@[simp] theorem endTick_lineId (r : Option Word) : (s.endTick r).lineId = s.lineId := rfl
@[simp] theorem endTick_tick (r : Option Word) : (s.endTick r).tick = s.tick + 1 := rfl
@[simp] theorem endTick_lineIn (r : Option Word) : (s.endTick r).lineIn = s.lineIn.tail := rfl
@[simp] theorem endTick_hostIn (r : Option Word) : (s.endTick r).hostIn = s.hostIn.tail := rfl
@[simp] theorem endTick_hrdata (r : Option Word) : (s.endTick r).hrdata = r := rfl

/-! ### storeCmdHi -/

@[simp] theorem storeCmdHi_phase (v : Word) : (s.storeCmdHi v).phase = s.phase := rfl
@[simp] theorem storeCmdHi_fb (v : Word) : (s.storeCmdHi v).fb = s.fb := rfl
@[simp] theorem storeCmdHi_nbytes (v : Word) : (s.storeCmdHi v).nbytes = s.nbytes := rfl
@[simp] theorem storeCmdHi_mode (v : Word) : (s.storeCmdHi v).mode = s.mode := rfl
@[simp] theorem storeCmdHi_mi (v : Word) : (s.storeCmdHi v).mi = s.mi := rfl
@[simp] theorem storeCmdHi_timeout (v : Word) : (s.storeCmdHi v).timeout = s.timeout := rfl
@[simp] theorem storeCmdHi_seg (v : Word) : (s.storeCmdHi v).seg = s.seg := rfl
@[simp] theorem storeCmdHi_bitPos (v : Word) : (s.storeCmdHi v).bitPos = s.bitPos := rfl
@[simp] theorem storeCmdHi_byteIdx (v : Word) : (s.storeCmdHi v).byteIdx = s.byteIdx := rfl
@[simp] theorem storeCmdHi_el (v : Word) : (s.storeCmdHi v).el = s.el := rfl
@[simp] theorem storeCmdHi_poll (v : Word) : (s.storeCmdHi v).poll = s.poll := rfl
@[simp] theorem storeCmdHi_lrLastLow (v : Word) : (s.storeCmdHi v).lrLastLow = s.lrLastLow := rfl
@[simp] theorem storeCmdHi_mp (v : Word) : (s.storeCmdHi v).mp = s.mp := rfl
@[simp] theorem storeCmdHi_mc (v : Word) : (s.storeCmdHi v).mc = s.mc := rfl
@[simp] theorem storeCmdHi_acc (v : Word) : (s.storeCmdHi v).acc = s.acc := rfl
@[simp] theorem storeCmdHi_bitCnt (v : Word) : (s.storeCmdHi v).bitCnt = s.bitCnt := rfl
@[simp] theorem storeCmdHi_gapNoted (v : Word) : (s.storeCmdHi v).gapNoted = s.gapNoted := rfl
@[simp] theorem storeCmdHi_evbuf (v : Word) : (s.storeCmdHi v).evbuf = s.evbuf := rfl
@[simp] theorem storeCmdHi_evRdy (v : Word) : (s.storeCmdHi v).evRdy = s.evRdy := rfl
@[simp] theorem storeCmdHi_evOvf (v : Word) : (s.storeCmdHi v).evOvf = s.evOvf := rfl
@[simp] theorem storeCmdHi_dir (v : Word) : (s.storeCmdHi v).dir = s.dir := rfl
@[simp] theorem storeCmdHi_lineOut (v : Word) : (s.storeCmdHi v).lineOut = s.lineOut := rfl
@[simp] theorem storeCmdHi_bound (v : Word) : (s.storeCmdHi v).bound = s.bound := rfl
@[simp] theorem storeCmdHi_pin (v : Word) : (s.storeCmdHi v).pin = s.pin := rfl
@[simp] theorem storeCmdHi_rej (v : Word) : (s.storeCmdHi v).rej = s.rej := rfl
@[simp] theorem storeCmdHi_rcause (v : Word) : (s.storeCmdHi v).rcause = s.rcause := rfl
@[simp] theorem storeCmdHi_lrto (v : Word) : (s.storeCmdHi v).lrto = s.lrto := rfl
@[simp] theorem storeCmdHi_padcut (v : Word) : (s.storeCmdHi v).padcut = s.padcut := rfl
@[simp] theorem storeCmdHi_diagRate (v : Word) : (s.storeCmdHi v).diagRate = s.diagRate := rfl
@[simp] theorem storeCmdHi_cmdLo (v : Word) : (s.storeCmdHi v).cmdLo = s.cmdLo := rfl
@[simp] theorem storeCmdHi_cmdHi (v : Word) : (s.storeCmdHi v).cmdHi = v := rfl
@[simp] theorem storeCmdHi_lineId (v : Word) : (s.storeCmdHi v).lineId = s.lineId := rfl
@[simp] theorem storeCmdHi_tick (v : Word) : (s.storeCmdHi v).tick = s.tick := rfl
@[simp] theorem storeCmdHi_lineIn (v : Word) : (s.storeCmdHi v).lineIn = s.lineIn := rfl
@[simp] theorem storeCmdHi_hostIn (v : Word) : (s.storeCmdHi v).hostIn = s.hostIn := rfl
@[simp] theorem storeCmdHi_hrdata (v : Word) : (s.storeCmdHi v).hrdata = s.hrdata := rfl

/-! ### storeCmdLo -/

@[simp] theorem storeCmdLo_phase (v : Word) : (s.storeCmdLo v).phase = s.phase := rfl
@[simp] theorem storeCmdLo_fb (v : Word) : (s.storeCmdLo v).fb = s.fb := rfl
@[simp] theorem storeCmdLo_nbytes (v : Word) : (s.storeCmdLo v).nbytes = s.nbytes := rfl
@[simp] theorem storeCmdLo_mode (v : Word) : (s.storeCmdLo v).mode = s.mode := rfl
@[simp] theorem storeCmdLo_mi (v : Word) : (s.storeCmdLo v).mi = s.mi := rfl
@[simp] theorem storeCmdLo_timeout (v : Word) : (s.storeCmdLo v).timeout = s.timeout := rfl
@[simp] theorem storeCmdLo_seg (v : Word) : (s.storeCmdLo v).seg = s.seg := rfl
@[simp] theorem storeCmdLo_bitPos (v : Word) : (s.storeCmdLo v).bitPos = s.bitPos := rfl
@[simp] theorem storeCmdLo_byteIdx (v : Word) : (s.storeCmdLo v).byteIdx = s.byteIdx := rfl
@[simp] theorem storeCmdLo_el (v : Word) : (s.storeCmdLo v).el = s.el := rfl
@[simp] theorem storeCmdLo_poll (v : Word) : (s.storeCmdLo v).poll = s.poll := rfl
@[simp] theorem storeCmdLo_lrLastLow (v : Word) : (s.storeCmdLo v).lrLastLow = s.lrLastLow := rfl
@[simp] theorem storeCmdLo_mp (v : Word) : (s.storeCmdLo v).mp = s.mp := rfl
@[simp] theorem storeCmdLo_mc (v : Word) : (s.storeCmdLo v).mc = s.mc := rfl
@[simp] theorem storeCmdLo_acc (v : Word) : (s.storeCmdLo v).acc = s.acc := rfl
@[simp] theorem storeCmdLo_bitCnt (v : Word) : (s.storeCmdLo v).bitCnt = s.bitCnt := rfl
@[simp] theorem storeCmdLo_gapNoted (v : Word) : (s.storeCmdLo v).gapNoted = s.gapNoted := rfl
@[simp] theorem storeCmdLo_evbuf (v : Word) : (s.storeCmdLo v).evbuf = s.evbuf := rfl
@[simp] theorem storeCmdLo_evRdy (v : Word) : (s.storeCmdLo v).evRdy = s.evRdy := rfl
@[simp] theorem storeCmdLo_evOvf (v : Word) : (s.storeCmdLo v).evOvf = s.evOvf := rfl
@[simp] theorem storeCmdLo_dir (v : Word) : (s.storeCmdLo v).dir = s.dir := rfl
@[simp] theorem storeCmdLo_lineOut (v : Word) : (s.storeCmdLo v).lineOut = s.lineOut := rfl
@[simp] theorem storeCmdLo_bound (v : Word) : (s.storeCmdLo v).bound = s.bound := rfl
@[simp] theorem storeCmdLo_pin (v : Word) : (s.storeCmdLo v).pin = s.pin := rfl
@[simp] theorem storeCmdLo_rej (v : Word) : (s.storeCmdLo v).rej = s.rej := rfl
@[simp] theorem storeCmdLo_rcause (v : Word) : (s.storeCmdLo v).rcause = s.rcause := rfl
@[simp] theorem storeCmdLo_lrto (v : Word) : (s.storeCmdLo v).lrto = s.lrto := rfl
@[simp] theorem storeCmdLo_padcut (v : Word) : (s.storeCmdLo v).padcut = s.padcut := rfl
@[simp] theorem storeCmdLo_diagRate (v : Word) : (s.storeCmdLo v).diagRate = s.diagRate := rfl
@[simp] theorem storeCmdLo_cmdLo (v : Word) : (s.storeCmdLo v).cmdLo = v := rfl
@[simp] theorem storeCmdLo_cmdHi (v : Word) : (s.storeCmdLo v).cmdHi = s.cmdHi := rfl
@[simp] theorem storeCmdLo_lineId (v : Word) : (s.storeCmdLo v).lineId = s.lineId := rfl
@[simp] theorem storeCmdLo_tick (v : Word) : (s.storeCmdLo v).tick = s.tick := rfl
@[simp] theorem storeCmdLo_lineIn (v : Word) : (s.storeCmdLo v).lineIn = s.lineIn := rfl
@[simp] theorem storeCmdLo_hostIn (v : Word) : (s.storeCmdLo v).hostIn = s.hostIn := rfl
@[simp] theorem storeCmdLo_hrdata (v : Word) : (s.storeCmdLo v).hrdata = s.hrdata := rfl

/-! ### reject -/

@[simp] theorem reject_phase (k : Cause) : (s.reject k).phase = s.phase := rfl
@[simp] theorem reject_fb (k : Cause) : (s.reject k).fb = s.fb := rfl
@[simp] theorem reject_nbytes (k : Cause) : (s.reject k).nbytes = s.nbytes := rfl
@[simp] theorem reject_mode (k : Cause) : (s.reject k).mode = s.mode := rfl
@[simp] theorem reject_mi (k : Cause) : (s.reject k).mi = s.mi := rfl
@[simp] theorem reject_timeout (k : Cause) : (s.reject k).timeout = s.timeout := rfl
@[simp] theorem reject_seg (k : Cause) : (s.reject k).seg = s.seg := rfl
@[simp] theorem reject_bitPos (k : Cause) : (s.reject k).bitPos = s.bitPos := rfl
@[simp] theorem reject_byteIdx (k : Cause) : (s.reject k).byteIdx = s.byteIdx := rfl
@[simp] theorem reject_el (k : Cause) : (s.reject k).el = s.el := rfl
@[simp] theorem reject_poll (k : Cause) : (s.reject k).poll = s.poll := rfl
@[simp] theorem reject_lrLastLow (k : Cause) : (s.reject k).lrLastLow = s.lrLastLow := rfl
@[simp] theorem reject_mp (k : Cause) : (s.reject k).mp = s.mp := rfl
@[simp] theorem reject_mc (k : Cause) : (s.reject k).mc = s.mc := rfl
@[simp] theorem reject_acc (k : Cause) : (s.reject k).acc = s.acc := rfl
@[simp] theorem reject_bitCnt (k : Cause) : (s.reject k).bitCnt = s.bitCnt := rfl
@[simp] theorem reject_gapNoted (k : Cause) : (s.reject k).gapNoted = s.gapNoted := rfl
@[simp] theorem reject_evbuf (k : Cause) : (s.reject k).evbuf = s.evbuf := rfl
@[simp] theorem reject_evRdy (k : Cause) : (s.reject k).evRdy = s.evRdy := rfl
@[simp] theorem reject_evOvf (k : Cause) : (s.reject k).evOvf = s.evOvf := rfl
@[simp] theorem reject_dir (k : Cause) : (s.reject k).dir = s.dir := rfl
@[simp] theorem reject_lineOut (k : Cause) : (s.reject k).lineOut = s.lineOut := rfl
@[simp] theorem reject_bound (k : Cause) : (s.reject k).bound = s.bound := rfl
@[simp] theorem reject_pin (k : Cause) : (s.reject k).pin = s.pin := rfl
@[simp] theorem reject_rej (k : Cause) : (s.reject k).rej = true := rfl
@[simp] theorem reject_rcause (k : Cause) : (s.reject k).rcause = k := rfl
@[simp] theorem reject_lrto (k : Cause) : (s.reject k).lrto = s.lrto := rfl
@[simp] theorem reject_padcut (k : Cause) : (s.reject k).padcut = s.padcut := rfl
@[simp] theorem reject_diagRate (k : Cause) : (s.reject k).diagRate = s.diagRate := rfl
@[simp] theorem reject_cmdLo (k : Cause) : (s.reject k).cmdLo = s.cmdLo := rfl
@[simp] theorem reject_cmdHi (k : Cause) : (s.reject k).cmdHi = s.cmdHi := rfl
@[simp] theorem reject_lineId (k : Cause) : (s.reject k).lineId = s.lineId := rfl
@[simp] theorem reject_tick (k : Cause) : (s.reject k).tick = s.tick := rfl
@[simp] theorem reject_lineIn (k : Cause) : (s.reject k).lineIn = s.lineIn := rfl
@[simp] theorem reject_hostIn (k : Cause) : (s.reject k).hostIn = s.hostIn := rfl
@[simp] theorem reject_hrdata (k : Cause) : (s.reject k).hrdata = s.hrdata := rfl

/-! ### acceptInit -/

@[simp] theorem acceptInit_phase (p : Byte) : (s.acceptInit p).phase = s.phase := rfl
@[simp] theorem acceptInit_fb (p : Byte) : (s.acceptInit p).fb = s.fb := rfl
@[simp] theorem acceptInit_nbytes (p : Byte) : (s.acceptInit p).nbytes = s.nbytes := rfl
@[simp] theorem acceptInit_mode (p : Byte) : (s.acceptInit p).mode = s.mode := rfl
@[simp] theorem acceptInit_mi (p : Byte) : (s.acceptInit p).mi = s.mi := rfl
@[simp] theorem acceptInit_timeout (p : Byte) : (s.acceptInit p).timeout = s.timeout := rfl
@[simp] theorem acceptInit_seg (p : Byte) : (s.acceptInit p).seg = s.seg := rfl
@[simp] theorem acceptInit_bitPos (p : Byte) : (s.acceptInit p).bitPos = s.bitPos := rfl
@[simp] theorem acceptInit_byteIdx (p : Byte) : (s.acceptInit p).byteIdx = s.byteIdx := rfl
@[simp] theorem acceptInit_el (p : Byte) : (s.acceptInit p).el = s.el := rfl
@[simp] theorem acceptInit_poll (p : Byte) : (s.acceptInit p).poll = s.poll := rfl
@[simp] theorem acceptInit_lrLastLow (p : Byte) : (s.acceptInit p).lrLastLow = s.lrLastLow := rfl
@[simp] theorem acceptInit_mp (p : Byte) : (s.acceptInit p).mp = s.mp := rfl
@[simp] theorem acceptInit_mc (p : Byte) : (s.acceptInit p).mc = s.mc := rfl
@[simp] theorem acceptInit_acc (p : Byte) : (s.acceptInit p).acc = s.acc := rfl
@[simp] theorem acceptInit_bitCnt (p : Byte) : (s.acceptInit p).bitCnt = s.bitCnt := rfl
@[simp] theorem acceptInit_gapNoted (p : Byte) : (s.acceptInit p).gapNoted = s.gapNoted := rfl
@[simp] theorem acceptInit_evbuf (p : Byte) : (s.acceptInit p).evbuf = s.evbuf := rfl
@[simp] theorem acceptInit_evRdy (p : Byte) : (s.acceptInit p).evRdy = s.evRdy := rfl
@[simp] theorem acceptInit_evOvf (p : Byte) : (s.acceptInit p).evOvf = s.evOvf := rfl
@[simp] theorem acceptInit_dir (p : Byte) : (s.acceptInit p).dir = false := rfl
@[simp] theorem acceptInit_lineOut (p : Byte) : (s.acceptInit p).lineOut = s.lineOut := rfl
@[simp] theorem acceptInit_bound (p : Byte) : (s.acceptInit p).bound = true := rfl
@[simp] theorem acceptInit_pin (p : Byte) : (s.acceptInit p).pin = p := rfl
@[simp] theorem acceptInit_rej (p : Byte) : (s.acceptInit p).rej = s.rej := rfl
@[simp] theorem acceptInit_rcause (p : Byte) : (s.acceptInit p).rcause = s.rcause := rfl
@[simp] theorem acceptInit_lrto (p : Byte) : (s.acceptInit p).lrto = s.lrto := rfl
@[simp] theorem acceptInit_padcut (p : Byte) : (s.acceptInit p).padcut = s.padcut := rfl
@[simp] theorem acceptInit_diagRate (p : Byte) : (s.acceptInit p).diagRate = s.diagRate := rfl
@[simp] theorem acceptInit_cmdLo (p : Byte) : (s.acceptInit p).cmdLo = s.cmdLo := rfl
@[simp] theorem acceptInit_cmdHi (p : Byte) : (s.acceptInit p).cmdHi = s.cmdHi := rfl
@[simp] theorem acceptInit_lineId (p : Byte) : (s.acceptInit p).lineId = s.lineId := rfl
@[simp] theorem acceptInit_tick (p : Byte) : (s.acceptInit p).tick = s.tick := rfl
@[simp] theorem acceptInit_lineIn (p : Byte) : (s.acceptInit p).lineIn = s.lineIn := rfl
@[simp] theorem acceptInit_hostIn (p : Byte) : (s.acceptInit p).hostIn = s.hostIn := rfl
@[simp] theorem acceptInit_hrdata (p : Byte) : (s.acceptInit p).hrdata = s.hrdata := rfl

/-! ### acceptSend -/

@[simp] theorem acceptSend_phase (p2 p3 : Bool) (d c1 c2 c3 : Byte) :
    (s.acceptSend p2 p3 d c1 c2 c3).phase = .lr := rfl
@[simp] theorem acceptSend_fb (p2 p3 : Bool) (d c1 c2 c3 : Byte) :
    (s.acceptSend p2 p3 d c1 c2 c3).fb = latchedBytes p2 p3 d c1 c2 c3 s.fb := rfl
@[simp] theorem acceptSend_nbytes (p2 p3 : Bool) (d c1 c2 c3 : Byte) :
    (s.acceptSend p2 p3 d c1 c2 c3).nbytes = latchedCount p2 p3 := rfl
@[simp] theorem acceptSend_mode (p2 p3 : Bool) (d c1 c2 c3 : Byte) :
    (s.acceptSend p2 p3 d c1 c2 c3).mode = s.mode := rfl
@[simp] theorem acceptSend_mi (p2 p3 : Bool) (d c1 c2 c3 : Byte) :
    (s.acceptSend p2 p3 d c1 c2 c3).mi = s.mi := rfl
@[simp] theorem acceptSend_timeout (p2 p3 : Bool) (d c1 c2 c3 : Byte) :
    (s.acceptSend p2 p3 d c1 c2 c3).timeout = s.timeout := rfl
@[simp] theorem acceptSend_seg (p2 p3 : Bool) (d c1 c2 c3 : Byte) :
    (s.acceptSend p2 p3 d c1 c2 c3).seg = s.seg := rfl
@[simp] theorem acceptSend_bitPos (p2 p3 : Bool) (d c1 c2 c3 : Byte) :
    (s.acceptSend p2 p3 d c1 c2 c3).bitPos = s.bitPos := rfl
@[simp] theorem acceptSend_byteIdx (p2 p3 : Bool) (d c1 c2 c3 : Byte) :
    (s.acceptSend p2 p3 d c1 c2 c3).byteIdx = s.byteIdx := rfl
@[simp] theorem acceptSend_el (p2 p3 : Bool) (d c1 c2 c3 : Byte) :
    (s.acceptSend p2 p3 d c1 c2 c3).el = 0 := rfl
@[simp] theorem acceptSend_poll (p2 p3 : Bool) (d c1 c2 c3 : Byte) :
    (s.acceptSend p2 p3 d c1 c2 c3).poll = 0 := rfl
@[simp] theorem acceptSend_lrLastLow (p2 p3 : Bool) (d c1 c2 c3 : Byte) :
    (s.acceptSend p2 p3 d c1 c2 c3).lrLastLow = 0 := rfl
@[simp] theorem acceptSend_mp (p2 p3 : Bool) (d c1 c2 c3 : Byte) :
    (s.acceptSend p2 p3 d c1 c2 c3).mp = s.mp := rfl
@[simp] theorem acceptSend_mc (p2 p3 : Bool) (d c1 c2 c3 : Byte) :
    (s.acceptSend p2 p3 d c1 c2 c3).mc = s.mc := rfl
@[simp] theorem acceptSend_acc (p2 p3 : Bool) (d c1 c2 c3 : Byte) :
    (s.acceptSend p2 p3 d c1 c2 c3).acc = s.acc := rfl
@[simp] theorem acceptSend_bitCnt (p2 p3 : Bool) (d c1 c2 c3 : Byte) :
    (s.acceptSend p2 p3 d c1 c2 c3).bitCnt = s.bitCnt := rfl
@[simp] theorem acceptSend_gapNoted (p2 p3 : Bool) (d c1 c2 c3 : Byte) :
    (s.acceptSend p2 p3 d c1 c2 c3).gapNoted = s.gapNoted := rfl
@[simp] theorem acceptSend_evbuf (p2 p3 : Bool) (d c1 c2 c3 : Byte) :
    (s.acceptSend p2 p3 d c1 c2 c3).evbuf = s.evbuf := rfl
@[simp] theorem acceptSend_evRdy (p2 p3 : Bool) (d c1 c2 c3 : Byte) :
    (s.acceptSend p2 p3 d c1 c2 c3).evRdy = s.evRdy := rfl
@[simp] theorem acceptSend_evOvf (p2 p3 : Bool) (d c1 c2 c3 : Byte) :
    (s.acceptSend p2 p3 d c1 c2 c3).evOvf = s.evOvf := rfl
@[simp] theorem acceptSend_dir (p2 p3 : Bool) (d c1 c2 c3 : Byte) :
    (s.acceptSend p2 p3 d c1 c2 c3).dir = false := rfl
@[simp] theorem acceptSend_lineOut (p2 p3 : Bool) (d c1 c2 c3 : Byte) :
    (s.acceptSend p2 p3 d c1 c2 c3).lineOut = s.lineOut := rfl
@[simp] theorem acceptSend_bound (p2 p3 : Bool) (d c1 c2 c3 : Byte) :
    (s.acceptSend p2 p3 d c1 c2 c3).bound = s.bound := rfl
@[simp] theorem acceptSend_pin (p2 p3 : Bool) (d c1 c2 c3 : Byte) :
    (s.acceptSend p2 p3 d c1 c2 c3).pin = s.pin := rfl
@[simp] theorem acceptSend_rej (p2 p3 : Bool) (d c1 c2 c3 : Byte) :
    (s.acceptSend p2 p3 d c1 c2 c3).rej = s.rej := rfl
@[simp] theorem acceptSend_rcause (p2 p3 : Bool) (d c1 c2 c3 : Byte) :
    (s.acceptSend p2 p3 d c1 c2 c3).rcause = s.rcause := rfl
@[simp] theorem acceptSend_lrto (p2 p3 : Bool) (d c1 c2 c3 : Byte) :
    (s.acceptSend p2 p3 d c1 c2 c3).lrto = false := rfl
@[simp] theorem acceptSend_padcut (p2 p3 : Bool) (d c1 c2 c3 : Byte) :
    (s.acceptSend p2 p3 d c1 c2 c3).padcut = false := rfl
@[simp] theorem acceptSend_diagRate (p2 p3 : Bool) (d c1 c2 c3 : Byte) :
    (s.acceptSend p2 p3 d c1 c2 c3).diagRate = s.diagRate := rfl
@[simp] theorem acceptSend_cmdLo (p2 p3 : Bool) (d c1 c2 c3 : Byte) :
    (s.acceptSend p2 p3 d c1 c2 c3).cmdLo = s.cmdLo := rfl
@[simp] theorem acceptSend_cmdHi (p2 p3 : Bool) (d c1 c2 c3 : Byte) :
    (s.acceptSend p2 p3 d c1 c2 c3).cmdHi = s.cmdHi := rfl
@[simp] theorem acceptSend_lineId (p2 p3 : Bool) (d c1 c2 c3 : Byte) :
    (s.acceptSend p2 p3 d c1 c2 c3).lineId = s.lineId := rfl
@[simp] theorem acceptSend_tick (p2 p3 : Bool) (d c1 c2 c3 : Byte) :
    (s.acceptSend p2 p3 d c1 c2 c3).tick = s.tick := rfl
@[simp] theorem acceptSend_lineIn (p2 p3 : Bool) (d c1 c2 c3 : Byte) :
    (s.acceptSend p2 p3 d c1 c2 c3).lineIn = s.lineIn := rfl
@[simp] theorem acceptSend_hostIn (p2 p3 : Bool) (d c1 c2 c3 : Byte) :
    (s.acceptSend p2 p3 d c1 c2 c3).hostIn = s.hostIn := rfl
@[simp] theorem acceptSend_hrdata (p2 p3 : Bool) (d c1 c2 c3 : Byte) :
    (s.acceptSend p2 p3 d c1 c2 c3).hrdata = s.hrdata := rfl

/-! ### acceptMonitor -/

@[simp] theorem acceptMonitor_phase (m : BitVec 2) (i : Bool) (t : Word) (r : BitVec 24) :
    (s.acceptMonitor m i t r).phase = .mon := rfl
@[simp] theorem acceptMonitor_fb (m : BitVec 2) (i : Bool) (t : Word) (r : BitVec 24) :
    (s.acceptMonitor m i t r).fb = s.fb := rfl
@[simp] theorem acceptMonitor_nbytes (m : BitVec 2) (i : Bool) (t : Word) (r : BitVec 24) :
    (s.acceptMonitor m i t r).nbytes = s.nbytes := rfl
@[simp] theorem acceptMonitor_mode (m : BitVec 2) (i : Bool) (t : Word) (r : BitVec 24) :
    (s.acceptMonitor m i t r).mode = m := rfl
@[simp] theorem acceptMonitor_mi (m : BitVec 2) (i : Bool) (t : Word) (r : BitVec 24) :
    (s.acceptMonitor m i t r).mi = i := rfl
@[simp] theorem acceptMonitor_timeout (m : BitVec 2) (i : Bool) (t : Word) (r : BitVec 24) :
    (s.acceptMonitor m i t r).timeout = timeoutValue t := rfl
@[simp] theorem acceptMonitor_seg (m : BitVec 2) (i : Bool) (t : Word) (r : BitVec 24) :
    (s.acceptMonitor m i t r).seg = s.seg := rfl
@[simp] theorem acceptMonitor_bitPos (m : BitVec 2) (i : Bool) (t : Word) (r : BitVec 24) :
    (s.acceptMonitor m i t r).bitPos = s.bitPos := rfl
@[simp] theorem acceptMonitor_byteIdx (m : BitVec 2) (i : Bool) (t : Word) (r : BitVec 24) :
    (s.acceptMonitor m i t r).byteIdx = s.byteIdx := rfl
@[simp] theorem acceptMonitor_el (m : BitVec 2) (i : Bool) (t : Word) (r : BitVec 24) :
    (s.acceptMonitor m i t r).el = 0 := rfl
@[simp] theorem acceptMonitor_poll (m : BitVec 2) (i : Bool) (t : Word) (r : BitVec 24) :
    (s.acceptMonitor m i t r).poll = s.poll := rfl
@[simp] theorem acceptMonitor_lrLastLow (m : BitVec 2) (i : Bool) (t : Word) (r : BitVec 24) :
    (s.acceptMonitor m i t r).lrLastLow = s.lrLastLow := rfl
@[simp] theorem acceptMonitor_mp (m : BitVec 2) (i : Bool) (t : Word) (r : BitVec 24) :
    (s.acceptMonitor m i t r).mp = .top := rfl
@[simp] theorem acceptMonitor_mc (m : BitVec 2) (i : Bool) (t : Word) (r : BitVec 24) :
    (s.acceptMonitor m i t r).mc = 0 := rfl
@[simp] theorem acceptMonitor_acc (m : BitVec 2) (i : Bool) (t : Word) (r : BitVec 24) :
    (s.acceptMonitor m i t r).acc = 0 := rfl
@[simp] theorem acceptMonitor_bitCnt (m : BitVec 2) (i : Bool) (t : Word) (r : BitVec 24) :
    (s.acceptMonitor m i t r).bitCnt = 0 := rfl
@[simp] theorem acceptMonitor_gapNoted (m : BitVec 2) (i : Bool) (t : Word) (r : BitVec 24) :
    (s.acceptMonitor m i t r).gapNoted = false := rfl
@[simp] theorem acceptMonitor_evbuf (m : BitVec 2) (i : Bool) (t : Word) (r : BitVec 24) :
    (s.acceptMonitor m i t r).evbuf = [] := rfl
@[simp] theorem acceptMonitor_evRdy (m : BitVec 2) (i : Bool) (t : Word) (r : BitVec 24) :
    (s.acceptMonitor m i t r).evRdy = false := rfl
@[simp] theorem acceptMonitor_evOvf (m : BitVec 2) (i : Bool) (t : Word) (r : BitVec 24) :
    (s.acceptMonitor m i t r).evOvf = false := rfl
@[simp] theorem acceptMonitor_dir (m : BitVec 2) (i : Bool) (t : Word) (r : BitVec 24) :
    (s.acceptMonitor m i t r).dir = false := rfl
@[simp] theorem acceptMonitor_lineOut (m : BitVec 2) (i : Bool) (t : Word) (r : BitVec 24) :
    (s.acceptMonitor m i t r).lineOut = s.lineOut := rfl
@[simp] theorem acceptMonitor_bound (m : BitVec 2) (i : Bool) (t : Word) (r : BitVec 24) :
    (s.acceptMonitor m i t r).bound = s.bound := rfl
@[simp] theorem acceptMonitor_pin (m : BitVec 2) (i : Bool) (t : Word) (r : BitVec 24) :
    (s.acceptMonitor m i t r).pin = s.pin := rfl
@[simp] theorem acceptMonitor_rej (m : BitVec 2) (i : Bool) (t : Word) (r : BitVec 24) :
    (s.acceptMonitor m i t r).rej = s.rej := rfl
@[simp] theorem acceptMonitor_rcause (m : BitVec 2) (i : Bool) (t : Word) (r : BitVec 24) :
    (s.acceptMonitor m i t r).rcause = s.rcause := rfl
@[simp] theorem acceptMonitor_lrto (m : BitVec 2) (i : Bool) (t : Word) (r : BitVec 24) :
    (s.acceptMonitor m i t r).lrto = s.lrto := rfl
@[simp] theorem acceptMonitor_padcut (m : BitVec 2) (i : Bool) (t : Word) (r : BitVec 24) :
    (s.acceptMonitor m i t r).padcut = s.padcut := rfl
@[simp] theorem acceptMonitor_diagRate (m : BitVec 2) (i : Bool) (t : Word) (r : BitVec 24) :
    (s.acceptMonitor m i t r).diagRate = r := rfl
@[simp] theorem acceptMonitor_cmdLo (m : BitVec 2) (i : Bool) (t : Word) (r : BitVec 24) :
    (s.acceptMonitor m i t r).cmdLo = s.cmdLo := rfl
@[simp] theorem acceptMonitor_cmdHi (m : BitVec 2) (i : Bool) (t : Word) (r : BitVec 24) :
    (s.acceptMonitor m i t r).cmdHi = s.cmdHi := rfl
@[simp] theorem acceptMonitor_lineId (m : BitVec 2) (i : Bool) (t : Word) (r : BitVec 24) :
    (s.acceptMonitor m i t r).lineId = s.lineId := rfl
@[simp] theorem acceptMonitor_tick (m : BitVec 2) (i : Bool) (t : Word) (r : BitVec 24) :
    (s.acceptMonitor m i t r).tick = s.tick := rfl
@[simp] theorem acceptMonitor_lineIn (m : BitVec 2) (i : Bool) (t : Word) (r : BitVec 24) :
    (s.acceptMonitor m i t r).lineIn = s.lineIn := rfl
@[simp] theorem acceptMonitor_hostIn (m : BitVec 2) (i : Bool) (t : Word) (r : BitVec 24) :
    (s.acceptMonitor m i t r).hostIn = s.hostIn := rfl
@[simp] theorem acceptMonitor_hrdata (m : BitVec 2) (i : Bool) (t : Word) (r : BitVec 24) :
    (s.acceptMonitor m i t r).hrdata = s.hrdata := rfl

end Sys2Proof.Machine.State
end

