-- ==== Sys2Proof/Laws/Receive.lean ====
section
/-!
SUPPORT. What the receive path can do, said once per operation: `emit` (R185), `handle` (R166), the
return of a result, the measurement steps (R163 to R165) and the tick of MON (R162). A field that an
operation never writes has a @[simp] lemma of its own.
-/

namespace Sys2Proof.Machine.State

variable (c : Config) (s : State)

/-- Everything `emit` can do (R185). -/
theorem emit_cases (e : Event) :
    (s.evbuf.length < c.evCap ∧ s.emit c e = { s with evbuf := s.evbuf ++ [e] }) ∨
      (c.evCap ≤ s.evbuf.length ∧ s.emit c e = { s with evOvf := true }) := by
  by_cases h : s.evbuf.length < c.evCap
  · exact .inl ⟨h, by simp [emit, h]⟩
  · exact .inr ⟨Nat.le_of_not_lt h, by simp [emit, h, reportOverflow]⟩

@[simp] theorem emit_phase (e : Event) : (s.emit c e).phase = s.phase := by
  unfold emit; split <;> rfl
@[simp] theorem emit_fb (e : Event) : (s.emit c e).fb = s.fb := by
  unfold emit; split <;> rfl
@[simp] theorem emit_nbytes (e : Event) : (s.emit c e).nbytes = s.nbytes := by
  unfold emit; split <;> rfl
@[simp] theorem emit_mode (e : Event) : (s.emit c e).mode = s.mode := by
  unfold emit; split <;> rfl
@[simp] theorem emit_mi (e : Event) : (s.emit c e).mi = s.mi := by
  unfold emit; split <;> rfl
@[simp] theorem emit_timeout (e : Event) : (s.emit c e).timeout = s.timeout := by
  unfold emit; split <;> rfl
@[simp] theorem emit_seg (e : Event) : (s.emit c e).seg = s.seg := by
  unfold emit; split <;> rfl
@[simp] theorem emit_bitPos (e : Event) : (s.emit c e).bitPos = s.bitPos := by
  unfold emit; split <;> rfl
@[simp] theorem emit_byteIdx (e : Event) : (s.emit c e).byteIdx = s.byteIdx := by
  unfold emit; split <;> rfl
@[simp] theorem emit_el (e : Event) : (s.emit c e).el = s.el := by
  unfold emit; split <;> rfl
@[simp] theorem emit_poll (e : Event) : (s.emit c e).poll = s.poll := by
  unfold emit; split <;> rfl
@[simp] theorem emit_lrLastLow (e : Event) : (s.emit c e).lrLastLow = s.lrLastLow := by
  unfold emit; split <;> rfl
@[simp] theorem emit_mp (e : Event) : (s.emit c e).mp = s.mp := by
  unfold emit; split <;> rfl
@[simp] theorem emit_mc (e : Event) : (s.emit c e).mc = s.mc := by
  unfold emit; split <;> rfl
@[simp] theorem emit_acc (e : Event) : (s.emit c e).acc = s.acc := by
  unfold emit; split <;> rfl
@[simp] theorem emit_bitCnt (e : Event) : (s.emit c e).bitCnt = s.bitCnt := by
  unfold emit; split <;> rfl
@[simp] theorem emit_gapNoted (e : Event) : (s.emit c e).gapNoted = s.gapNoted := by
  unfold emit; split <;> rfl
@[simp] theorem emit_evRdy (e : Event) : (s.emit c e).evRdy = s.evRdy := by
  unfold emit; split <;> rfl
@[simp] theorem emit_dir (e : Event) : (s.emit c e).dir = s.dir := by
  unfold emit; split <;> rfl
@[simp] theorem emit_lineOut (e : Event) : (s.emit c e).lineOut = s.lineOut := by
  unfold emit; split <;> rfl
@[simp] theorem emit_bound (e : Event) : (s.emit c e).bound = s.bound := by
  unfold emit; split <;> rfl
@[simp] theorem emit_pin (e : Event) : (s.emit c e).pin = s.pin := by
  unfold emit; split <;> rfl
@[simp] theorem emit_rej (e : Event) : (s.emit c e).rej = s.rej := by
  unfold emit; split <;> rfl
@[simp] theorem emit_rcause (e : Event) : (s.emit c e).rcause = s.rcause := by
  unfold emit; split <;> rfl
@[simp] theorem emit_lrto (e : Event) : (s.emit c e).lrto = s.lrto := by
  unfold emit; split <;> rfl
@[simp] theorem emit_padcut (e : Event) : (s.emit c e).padcut = s.padcut := by
  unfold emit; split <;> rfl
@[simp] theorem emit_diagRate (e : Event) : (s.emit c e).diagRate = s.diagRate := by
  unfold emit; split <;> rfl
@[simp] theorem emit_cmdLo (e : Event) : (s.emit c e).cmdLo = s.cmdLo := by
  unfold emit; split <;> rfl
@[simp] theorem emit_cmdHi (e : Event) : (s.emit c e).cmdHi = s.cmdHi := by
  unfold emit; split <;> rfl
@[simp] theorem emit_lineId (e : Event) : (s.emit c e).lineId = s.lineId := by
  unfold emit; split <;> rfl
@[simp] theorem emit_tick (e : Event) : (s.emit c e).tick = s.tick := by
  unfold emit; split <;> rfl
@[simp] theorem emit_lineIn (e : Event) : (s.emit c e).lineIn = s.lineIn := by
  unfold emit; split <;> rfl
@[simp] theorem emit_hostIn (e : Event) : (s.emit c e).hostIn = s.hostIn := by
  unfold emit; split <;> rfl
@[simp] theorem emit_hrdata (e : Event) : (s.emit c e).hrdata = s.hrdata := by
  unfold emit; split <;> rfl

/-- Everything `advanceBit` can do (R178). -/
theorem advanceBit_cases :
    (s.bitCnt = 7 ∧ s.advanceBit c = (s.emit c (.byte s.acc)).clearByte) ∨
      (s.bitCnt ≠ 7 ∧ s.advanceBit c = { s with bitCnt := s.bitCnt + 1 }) := by
  by_cases h : s.bitCnt = 7
  · exact .inl ⟨h, if_pos h⟩
  · exact .inr ⟨h, if_neg h⟩

/-- Everything `emitBit` can do (R175, R176). -/
theorem emitBit_cases (b : Bool) :
    (s.mode = 1 ∧ s.emitBit c b = s.emit c (.bit b)) ∨ (s.mode ≠ 1 ∧ s.emitBit c b = s) := by
  by_cases h : s.mode = 1
  · exact .inl ⟨h, if_pos h⟩
  · exact .inr ⟨h, if_neg h⟩

/-- Everything `onNoSignal` can do (R172). -/
theorem onNoSignal_cases :
    (s.gapNoted = true ∧ s.onNoSignal c = s.clearByte) ∨
      (s.gapNoted = false ∧ s.onNoSignal c = (s.clearByte.emit c .lineBreak).noteGap) := by
  by_cases h : s.gapNoted = true <;> simp [onNoSignal, h]

/-- Everything `handle` can do (R166). -/
theorem handle_cases (d : Nat) :
    (d = 0 ∧ s.handle c d = s.onNoSignal c) ∨
      (d ≠ 0 ∧ s.mode = 0 ∧ s.handle c d = s.clearGap.onRaw c d) ∨
      (d ≠ 0 ∧ s.mode ≠ 0 ∧ s.handle c d = s.clearGap.onSymbol c (classify c d)) := by
  by_cases h : d = 0
  · exact .inl ⟨h, if_pos h⟩
  · by_cases hm : s.mode = 0
    · exact .inr (.inl ⟨h, hm, (if_neg h).trans (if_pos hm)⟩)
    · exact .inr (.inr ⟨h, hm, (if_neg h).trans (if_neg hm)⟩)

/-! ### advanceBit -/

@[simp] theorem advanceBit_phase : (s.advanceBit c).phase = s.phase := by
  unfold advanceBit; split <;> simp
@[simp] theorem advanceBit_fb : (s.advanceBit c).fb = s.fb := by
  unfold advanceBit; split <;> simp
@[simp] theorem advanceBit_nbytes : (s.advanceBit c).nbytes = s.nbytes := by
  unfold advanceBit; split <;> simp
@[simp] theorem advanceBit_mode : (s.advanceBit c).mode = s.mode := by
  unfold advanceBit; split <;> simp
@[simp] theorem advanceBit_mi : (s.advanceBit c).mi = s.mi := by
  unfold advanceBit; split <;> simp
@[simp] theorem advanceBit_timeout : (s.advanceBit c).timeout = s.timeout := by
  unfold advanceBit; split <;> simp
@[simp] theorem advanceBit_seg : (s.advanceBit c).seg = s.seg := by
  unfold advanceBit; split <;> simp
@[simp] theorem advanceBit_bitPos : (s.advanceBit c).bitPos = s.bitPos := by
  unfold advanceBit; split <;> simp
@[simp] theorem advanceBit_byteIdx : (s.advanceBit c).byteIdx = s.byteIdx := by
  unfold advanceBit; split <;> simp
@[simp] theorem advanceBit_el : (s.advanceBit c).el = s.el := by
  unfold advanceBit; split <;> simp
@[simp] theorem advanceBit_poll : (s.advanceBit c).poll = s.poll := by
  unfold advanceBit; split <;> simp
@[simp] theorem advanceBit_lrLastLow : (s.advanceBit c).lrLastLow = s.lrLastLow := by
  unfold advanceBit; split <;> simp
@[simp] theorem advanceBit_mp : (s.advanceBit c).mp = s.mp := by
  unfold advanceBit; split <;> simp
@[simp] theorem advanceBit_mc : (s.advanceBit c).mc = s.mc := by
  unfold advanceBit; split <;> simp
@[simp] theorem advanceBit_evRdy : (s.advanceBit c).evRdy = s.evRdy := by
  unfold advanceBit; split <;> simp
@[simp] theorem advanceBit_dir : (s.advanceBit c).dir = s.dir := by
  unfold advanceBit; split <;> simp
@[simp] theorem advanceBit_lineOut : (s.advanceBit c).lineOut = s.lineOut := by
  unfold advanceBit; split <;> simp
@[simp] theorem advanceBit_bound : (s.advanceBit c).bound = s.bound := by
  unfold advanceBit; split <;> simp
@[simp] theorem advanceBit_pin : (s.advanceBit c).pin = s.pin := by
  unfold advanceBit; split <;> simp
@[simp] theorem advanceBit_rej : (s.advanceBit c).rej = s.rej := by
  unfold advanceBit; split <;> simp
@[simp] theorem advanceBit_rcause : (s.advanceBit c).rcause = s.rcause := by
  unfold advanceBit; split <;> simp
@[simp] theorem advanceBit_lrto : (s.advanceBit c).lrto = s.lrto := by
  unfold advanceBit; split <;> simp
@[simp] theorem advanceBit_padcut : (s.advanceBit c).padcut = s.padcut := by
  unfold advanceBit; split <;> simp
@[simp] theorem advanceBit_diagRate : (s.advanceBit c).diagRate = s.diagRate := by
  unfold advanceBit; split <;> simp
@[simp] theorem advanceBit_cmdLo : (s.advanceBit c).cmdLo = s.cmdLo := by
  unfold advanceBit; split <;> simp
@[simp] theorem advanceBit_cmdHi : (s.advanceBit c).cmdHi = s.cmdHi := by
  unfold advanceBit; split <;> simp
@[simp] theorem advanceBit_lineId : (s.advanceBit c).lineId = s.lineId := by
  unfold advanceBit; split <;> simp
@[simp] theorem advanceBit_tick : (s.advanceBit c).tick = s.tick := by
  unfold advanceBit; split <;> simp
@[simp] theorem advanceBit_lineIn : (s.advanceBit c).lineIn = s.lineIn := by
  unfold advanceBit; split <;> simp
@[simp] theorem advanceBit_hostIn : (s.advanceBit c).hostIn = s.hostIn := by
  unfold advanceBit; split <;> simp
@[simp] theorem advanceBit_hrdata : (s.advanceBit c).hrdata = s.hrdata := by
  unfold advanceBit; split <;> simp

/-! ### emitBit -/

@[simp] theorem emitBit_phase (b : Bool) : (s.emitBit c b).phase = s.phase := by
  unfold emitBit; split <;> simp
@[simp] theorem emitBit_fb (b : Bool) : (s.emitBit c b).fb = s.fb := by
  unfold emitBit; split <;> simp
@[simp] theorem emitBit_nbytes (b : Bool) : (s.emitBit c b).nbytes = s.nbytes := by
  unfold emitBit; split <;> simp
@[simp] theorem emitBit_mode (b : Bool) : (s.emitBit c b).mode = s.mode := by
  unfold emitBit; split <;> simp
@[simp] theorem emitBit_mi (b : Bool) : (s.emitBit c b).mi = s.mi := by
  unfold emitBit; split <;> simp
@[simp] theorem emitBit_timeout (b : Bool) : (s.emitBit c b).timeout = s.timeout := by
  unfold emitBit; split <;> simp
@[simp] theorem emitBit_seg (b : Bool) : (s.emitBit c b).seg = s.seg := by
  unfold emitBit; split <;> simp
@[simp] theorem emitBit_bitPos (b : Bool) : (s.emitBit c b).bitPos = s.bitPos := by
  unfold emitBit; split <;> simp
@[simp] theorem emitBit_byteIdx (b : Bool) : (s.emitBit c b).byteIdx = s.byteIdx := by
  unfold emitBit; split <;> simp
@[simp] theorem emitBit_el (b : Bool) : (s.emitBit c b).el = s.el := by
  unfold emitBit; split <;> simp
@[simp] theorem emitBit_poll (b : Bool) : (s.emitBit c b).poll = s.poll := by
  unfold emitBit; split <;> simp
@[simp] theorem emitBit_lrLastLow (b : Bool) : (s.emitBit c b).lrLastLow = s.lrLastLow := by
  unfold emitBit; split <;> simp
@[simp] theorem emitBit_mp (b : Bool) : (s.emitBit c b).mp = s.mp := by
  unfold emitBit; split <;> simp
@[simp] theorem emitBit_mc (b : Bool) : (s.emitBit c b).mc = s.mc := by
  unfold emitBit; split <;> simp
@[simp] theorem emitBit_evRdy (b : Bool) : (s.emitBit c b).evRdy = s.evRdy := by
  unfold emitBit; split <;> simp
@[simp] theorem emitBit_dir (b : Bool) : (s.emitBit c b).dir = s.dir := by
  unfold emitBit; split <;> simp
@[simp] theorem emitBit_lineOut (b : Bool) : (s.emitBit c b).lineOut = s.lineOut := by
  unfold emitBit; split <;> simp
@[simp] theorem emitBit_bound (b : Bool) : (s.emitBit c b).bound = s.bound := by
  unfold emitBit; split <;> simp
@[simp] theorem emitBit_pin (b : Bool) : (s.emitBit c b).pin = s.pin := by
  unfold emitBit; split <;> simp
@[simp] theorem emitBit_rej (b : Bool) : (s.emitBit c b).rej = s.rej := by
  unfold emitBit; split <;> simp
@[simp] theorem emitBit_rcause (b : Bool) : (s.emitBit c b).rcause = s.rcause := by
  unfold emitBit; split <;> simp
@[simp] theorem emitBit_lrto (b : Bool) : (s.emitBit c b).lrto = s.lrto := by
  unfold emitBit; split <;> simp
@[simp] theorem emitBit_padcut (b : Bool) : (s.emitBit c b).padcut = s.padcut := by
  unfold emitBit; split <;> simp
@[simp] theorem emitBit_diagRate (b : Bool) : (s.emitBit c b).diagRate = s.diagRate := by
  unfold emitBit; split <;> simp
@[simp] theorem emitBit_cmdLo (b : Bool) : (s.emitBit c b).cmdLo = s.cmdLo := by
  unfold emitBit; split <;> simp
@[simp] theorem emitBit_cmdHi (b : Bool) : (s.emitBit c b).cmdHi = s.cmdHi := by
  unfold emitBit; split <;> simp
@[simp] theorem emitBit_lineId (b : Bool) : (s.emitBit c b).lineId = s.lineId := by
  unfold emitBit; split <;> simp
@[simp] theorem emitBit_tick (b : Bool) : (s.emitBit c b).tick = s.tick := by
  unfold emitBit; split <;> simp
@[simp] theorem emitBit_lineIn (b : Bool) : (s.emitBit c b).lineIn = s.lineIn := by
  unfold emitBit; split <;> simp
@[simp] theorem emitBit_hostIn (b : Bool) : (s.emitBit c b).hostIn = s.hostIn := by
  unfold emitBit; split <;> simp
@[simp] theorem emitBit_hrdata (b : Bool) : (s.emitBit c b).hrdata = s.hrdata := by
  unfold emitBit; split <;> simp

/-! ### onNoSignal -/

@[simp] theorem onNoSignal_phase : (s.onNoSignal c).phase = s.phase := by
  unfold onNoSignal; split <;> simp
@[simp] theorem onNoSignal_fb : (s.onNoSignal c).fb = s.fb := by
  unfold onNoSignal; split <;> simp
@[simp] theorem onNoSignal_nbytes : (s.onNoSignal c).nbytes = s.nbytes := by
  unfold onNoSignal; split <;> simp
@[simp] theorem onNoSignal_mode : (s.onNoSignal c).mode = s.mode := by
  unfold onNoSignal; split <;> simp
@[simp] theorem onNoSignal_mi : (s.onNoSignal c).mi = s.mi := by
  unfold onNoSignal; split <;> simp
@[simp] theorem onNoSignal_timeout : (s.onNoSignal c).timeout = s.timeout := by
  unfold onNoSignal; split <;> simp
@[simp] theorem onNoSignal_seg : (s.onNoSignal c).seg = s.seg := by
  unfold onNoSignal; split <;> simp
@[simp] theorem onNoSignal_bitPos : (s.onNoSignal c).bitPos = s.bitPos := by
  unfold onNoSignal; split <;> simp
@[simp] theorem onNoSignal_byteIdx : (s.onNoSignal c).byteIdx = s.byteIdx := by
  unfold onNoSignal; split <;> simp
@[simp] theorem onNoSignal_el : (s.onNoSignal c).el = s.el := by
  unfold onNoSignal; split <;> simp
@[simp] theorem onNoSignal_poll : (s.onNoSignal c).poll = s.poll := by
  unfold onNoSignal; split <;> simp
@[simp] theorem onNoSignal_lrLastLow : (s.onNoSignal c).lrLastLow = s.lrLastLow := by
  unfold onNoSignal; split <;> simp
@[simp] theorem onNoSignal_mp : (s.onNoSignal c).mp = s.mp := by
  unfold onNoSignal; split <;> simp
@[simp] theorem onNoSignal_mc : (s.onNoSignal c).mc = s.mc := by
  unfold onNoSignal; split <;> simp
@[simp] theorem onNoSignal_evRdy : (s.onNoSignal c).evRdy = s.evRdy := by
  unfold onNoSignal; split <;> simp
@[simp] theorem onNoSignal_dir : (s.onNoSignal c).dir = s.dir := by
  unfold onNoSignal; split <;> simp
@[simp] theorem onNoSignal_lineOut : (s.onNoSignal c).lineOut = s.lineOut := by
  unfold onNoSignal; split <;> simp
@[simp] theorem onNoSignal_bound : (s.onNoSignal c).bound = s.bound := by
  unfold onNoSignal; split <;> simp
@[simp] theorem onNoSignal_pin : (s.onNoSignal c).pin = s.pin := by
  unfold onNoSignal; split <;> simp
@[simp] theorem onNoSignal_rej : (s.onNoSignal c).rej = s.rej := by
  unfold onNoSignal; split <;> simp
@[simp] theorem onNoSignal_rcause : (s.onNoSignal c).rcause = s.rcause := by
  unfold onNoSignal; split <;> simp
@[simp] theorem onNoSignal_lrto : (s.onNoSignal c).lrto = s.lrto := by
  unfold onNoSignal; split <;> simp
@[simp] theorem onNoSignal_padcut : (s.onNoSignal c).padcut = s.padcut := by
  unfold onNoSignal; split <;> simp
@[simp] theorem onNoSignal_diagRate : (s.onNoSignal c).diagRate = s.diagRate := by
  unfold onNoSignal; split <;> simp
@[simp] theorem onNoSignal_cmdLo : (s.onNoSignal c).cmdLo = s.cmdLo := by
  unfold onNoSignal; split <;> simp
@[simp] theorem onNoSignal_cmdHi : (s.onNoSignal c).cmdHi = s.cmdHi := by
  unfold onNoSignal; split <;> simp
@[simp] theorem onNoSignal_lineId : (s.onNoSignal c).lineId = s.lineId := by
  unfold onNoSignal; split <;> simp
@[simp] theorem onNoSignal_tick : (s.onNoSignal c).tick = s.tick := by
  unfold onNoSignal; split <;> simp
@[simp] theorem onNoSignal_lineIn : (s.onNoSignal c).lineIn = s.lineIn := by
  unfold onNoSignal; split <;> simp
@[simp] theorem onNoSignal_hostIn : (s.onNoSignal c).hostIn = s.hostIn := by
  unfold onNoSignal; split <;> simp
@[simp] theorem onNoSignal_hrdata : (s.onNoSignal c).hrdata = s.hrdata := by
  unfold onNoSignal; split <;> simp

/-! ### onSymbol, handle -/

@[simp] theorem onSymbol_phase (y : Symbol) : (s.onSymbol c y).phase = s.phase := by
  cases y <;> simp [onSymbol, onSync, onOne, onZero, onUnknown]
@[simp] theorem onSymbol_fb (y : Symbol) : (s.onSymbol c y).fb = s.fb := by
  cases y <;> simp [onSymbol, onSync, onOne, onZero, onUnknown]
@[simp] theorem onSymbol_nbytes (y : Symbol) : (s.onSymbol c y).nbytes = s.nbytes := by
  cases y <;> simp [onSymbol, onSync, onOne, onZero, onUnknown]
@[simp] theorem onSymbol_mode (y : Symbol) : (s.onSymbol c y).mode = s.mode := by
  cases y <;> simp [onSymbol, onSync, onOne, onZero, onUnknown]
@[simp] theorem onSymbol_mi (y : Symbol) : (s.onSymbol c y).mi = s.mi := by
  cases y <;> simp [onSymbol, onSync, onOne, onZero, onUnknown]
@[simp] theorem onSymbol_timeout (y : Symbol) : (s.onSymbol c y).timeout = s.timeout := by
  cases y <;> simp [onSymbol, onSync, onOne, onZero, onUnknown]
@[simp] theorem onSymbol_seg (y : Symbol) : (s.onSymbol c y).seg = s.seg := by
  cases y <;> simp [onSymbol, onSync, onOne, onZero, onUnknown]
@[simp] theorem onSymbol_bitPos (y : Symbol) : (s.onSymbol c y).bitPos = s.bitPos := by
  cases y <;> simp [onSymbol, onSync, onOne, onZero, onUnknown]
@[simp] theorem onSymbol_byteIdx (y : Symbol) : (s.onSymbol c y).byteIdx = s.byteIdx := by
  cases y <;> simp [onSymbol, onSync, onOne, onZero, onUnknown]
@[simp] theorem onSymbol_el (y : Symbol) : (s.onSymbol c y).el = s.el := by
  cases y <;> simp [onSymbol, onSync, onOne, onZero, onUnknown]
@[simp] theorem onSymbol_poll (y : Symbol) : (s.onSymbol c y).poll = s.poll := by
  cases y <;> simp [onSymbol, onSync, onOne, onZero, onUnknown]
@[simp] theorem onSymbol_lrLastLow (y : Symbol) : (s.onSymbol c y).lrLastLow = s.lrLastLow := by
  cases y <;> simp [onSymbol, onSync, onOne, onZero, onUnknown]
@[simp] theorem onSymbol_mp (y : Symbol) : (s.onSymbol c y).mp = s.mp := by
  cases y <;> simp [onSymbol, onSync, onOne, onZero, onUnknown]
@[simp] theorem onSymbol_mc (y : Symbol) : (s.onSymbol c y).mc = s.mc := by
  cases y <;> simp [onSymbol, onSync, onOne, onZero, onUnknown]
@[simp] theorem onSymbol_evRdy (y : Symbol) : (s.onSymbol c y).evRdy = s.evRdy := by
  cases y <;> simp [onSymbol, onSync, onOne, onZero, onUnknown]
@[simp] theorem onSymbol_dir (y : Symbol) : (s.onSymbol c y).dir = s.dir := by
  cases y <;> simp [onSymbol, onSync, onOne, onZero, onUnknown]
@[simp] theorem onSymbol_lineOut (y : Symbol) : (s.onSymbol c y).lineOut = s.lineOut := by
  cases y <;> simp [onSymbol, onSync, onOne, onZero, onUnknown]
@[simp] theorem onSymbol_bound (y : Symbol) : (s.onSymbol c y).bound = s.bound := by
  cases y <;> simp [onSymbol, onSync, onOne, onZero, onUnknown]
@[simp] theorem onSymbol_pin (y : Symbol) : (s.onSymbol c y).pin = s.pin := by
  cases y <;> simp [onSymbol, onSync, onOne, onZero, onUnknown]
@[simp] theorem onSymbol_rej (y : Symbol) : (s.onSymbol c y).rej = s.rej := by
  cases y <;> simp [onSymbol, onSync, onOne, onZero, onUnknown]
@[simp] theorem onSymbol_rcause (y : Symbol) : (s.onSymbol c y).rcause = s.rcause := by
  cases y <;> simp [onSymbol, onSync, onOne, onZero, onUnknown]
@[simp] theorem onSymbol_lrto (y : Symbol) : (s.onSymbol c y).lrto = s.lrto := by
  cases y <;> simp [onSymbol, onSync, onOne, onZero, onUnknown]
@[simp] theorem onSymbol_padcut (y : Symbol) : (s.onSymbol c y).padcut = s.padcut := by
  cases y <;> simp [onSymbol, onSync, onOne, onZero, onUnknown]
@[simp] theorem onSymbol_diagRate (y : Symbol) : (s.onSymbol c y).diagRate = s.diagRate := by
  cases y <;> simp [onSymbol, onSync, onOne, onZero, onUnknown]
@[simp] theorem onSymbol_cmdLo (y : Symbol) : (s.onSymbol c y).cmdLo = s.cmdLo := by
  cases y <;> simp [onSymbol, onSync, onOne, onZero, onUnknown]
@[simp] theorem onSymbol_cmdHi (y : Symbol) : (s.onSymbol c y).cmdHi = s.cmdHi := by
  cases y <;> simp [onSymbol, onSync, onOne, onZero, onUnknown]
@[simp] theorem onSymbol_lineId (y : Symbol) : (s.onSymbol c y).lineId = s.lineId := by
  cases y <;> simp [onSymbol, onSync, onOne, onZero, onUnknown]
@[simp] theorem onSymbol_tick (y : Symbol) : (s.onSymbol c y).tick = s.tick := by
  cases y <;> simp [onSymbol, onSync, onOne, onZero, onUnknown]
@[simp] theorem onSymbol_lineIn (y : Symbol) : (s.onSymbol c y).lineIn = s.lineIn := by
  cases y <;> simp [onSymbol, onSync, onOne, onZero, onUnknown]
@[simp] theorem onSymbol_hostIn (y : Symbol) : (s.onSymbol c y).hostIn = s.hostIn := by
  cases y <;> simp [onSymbol, onSync, onOne, onZero, onUnknown]
@[simp] theorem onSymbol_hrdata (y : Symbol) : (s.onSymbol c y).hrdata = s.hrdata := by
  cases y <;> simp [onSymbol, onSync, onOne, onZero, onUnknown]
@[simp] theorem handle_phase (d : Nat) : (s.handle c d).phase = s.phase := by
  unfold handle onRaw; (repeat' split) <;> simp
@[simp] theorem handle_fb (d : Nat) : (s.handle c d).fb = s.fb := by
  unfold handle onRaw; (repeat' split) <;> simp
@[simp] theorem handle_nbytes (d : Nat) : (s.handle c d).nbytes = s.nbytes := by
  unfold handle onRaw; (repeat' split) <;> simp
@[simp] theorem handle_mode (d : Nat) : (s.handle c d).mode = s.mode := by
  unfold handle onRaw; (repeat' split) <;> simp
@[simp] theorem handle_mi (d : Nat) : (s.handle c d).mi = s.mi := by
  unfold handle onRaw; (repeat' split) <;> simp
@[simp] theorem handle_timeout (d : Nat) : (s.handle c d).timeout = s.timeout := by
  unfold handle onRaw; (repeat' split) <;> simp
@[simp] theorem handle_seg (d : Nat) : (s.handle c d).seg = s.seg := by
  unfold handle onRaw; (repeat' split) <;> simp
@[simp] theorem handle_bitPos (d : Nat) : (s.handle c d).bitPos = s.bitPos := by
  unfold handle onRaw; (repeat' split) <;> simp
@[simp] theorem handle_byteIdx (d : Nat) : (s.handle c d).byteIdx = s.byteIdx := by
  unfold handle onRaw; (repeat' split) <;> simp
@[simp] theorem handle_el (d : Nat) : (s.handle c d).el = s.el := by
  unfold handle onRaw; (repeat' split) <;> simp
@[simp] theorem handle_poll (d : Nat) : (s.handle c d).poll = s.poll := by
  unfold handle onRaw; (repeat' split) <;> simp
@[simp] theorem handle_lrLastLow (d : Nat) : (s.handle c d).lrLastLow = s.lrLastLow := by
  unfold handle onRaw; (repeat' split) <;> simp
@[simp] theorem handle_mp (d : Nat) : (s.handle c d).mp = s.mp := by
  unfold handle onRaw; (repeat' split) <;> simp
@[simp] theorem handle_mc (d : Nat) : (s.handle c d).mc = s.mc := by
  unfold handle onRaw; (repeat' split) <;> simp
@[simp] theorem handle_evRdy (d : Nat) : (s.handle c d).evRdy = s.evRdy := by
  unfold handle onRaw; (repeat' split) <;> simp
@[simp] theorem handle_dir (d : Nat) : (s.handle c d).dir = s.dir := by
  unfold handle onRaw; (repeat' split) <;> simp
@[simp] theorem handle_lineOut (d : Nat) : (s.handle c d).lineOut = s.lineOut := by
  unfold handle onRaw; (repeat' split) <;> simp
@[simp] theorem handle_bound (d : Nat) : (s.handle c d).bound = s.bound := by
  unfold handle onRaw; (repeat' split) <;> simp
@[simp] theorem handle_pin (d : Nat) : (s.handle c d).pin = s.pin := by
  unfold handle onRaw; (repeat' split) <;> simp
@[simp] theorem handle_rej (d : Nat) : (s.handle c d).rej = s.rej := by
  unfold handle onRaw; (repeat' split) <;> simp
@[simp] theorem handle_rcause (d : Nat) : (s.handle c d).rcause = s.rcause := by
  unfold handle onRaw; (repeat' split) <;> simp
@[simp] theorem handle_lrto (d : Nat) : (s.handle c d).lrto = s.lrto := by
  unfold handle onRaw; (repeat' split) <;> simp
@[simp] theorem handle_padcut (d : Nat) : (s.handle c d).padcut = s.padcut := by
  unfold handle onRaw; (repeat' split) <;> simp
@[simp] theorem handle_diagRate (d : Nat) : (s.handle c d).diagRate = s.diagRate := by
  unfold handle onRaw; (repeat' split) <;> simp
@[simp] theorem handle_cmdLo (d : Nat) : (s.handle c d).cmdLo = s.cmdLo := by
  unfold handle onRaw; (repeat' split) <;> simp
@[simp] theorem handle_cmdHi (d : Nat) : (s.handle c d).cmdHi = s.cmdHi := by
  unfold handle onRaw; (repeat' split) <;> simp
@[simp] theorem handle_lineId (d : Nat) : (s.handle c d).lineId = s.lineId := by
  unfold handle onRaw; (repeat' split) <;> simp
@[simp] theorem handle_tick (d : Nat) : (s.handle c d).tick = s.tick := by
  unfold handle onRaw; (repeat' split) <;> simp
@[simp] theorem handle_lineIn (d : Nat) : (s.handle c d).lineIn = s.lineIn := by
  unfold handle onRaw; (repeat' split) <;> simp
@[simp] theorem handle_hostIn (d : Nat) : (s.handle c d).hostIn = s.hostIn := by
  unfold handle onRaw; (repeat' split) <;> simp
@[simp] theorem handle_hrdata (d : Nat) : (s.handle c d).hrdata = s.hrdata := by
  unfold handle onRaw; (repeat' split) <;> simp

/-! ### Measurement -/

@[simp] theorem returnResult_phase (d : Nat) : (s.returnResult c d).phase = s.phase := by
  simp [returnResult]
@[simp] theorem returnResult_fb (d : Nat) : (s.returnResult c d).fb = s.fb := by
  simp [returnResult]
@[simp] theorem returnResult_nbytes (d : Nat) : (s.returnResult c d).nbytes = s.nbytes := by
  simp [returnResult]
@[simp] theorem returnResult_mode (d : Nat) : (s.returnResult c d).mode = s.mode := by
  simp [returnResult]
@[simp] theorem returnResult_mi (d : Nat) : (s.returnResult c d).mi = s.mi := by
  simp [returnResult]
@[simp] theorem returnResult_timeout (d : Nat) : (s.returnResult c d).timeout = s.timeout := by
  simp [returnResult]
@[simp] theorem returnResult_seg (d : Nat) : (s.returnResult c d).seg = s.seg := by
  simp [returnResult]
@[simp] theorem returnResult_bitPos (d : Nat) : (s.returnResult c d).bitPos = s.bitPos := by
  simp [returnResult]
@[simp] theorem returnResult_byteIdx (d : Nat) : (s.returnResult c d).byteIdx = s.byteIdx := by
  simp [returnResult]
@[simp] theorem returnResult_el (d : Nat) : (s.returnResult c d).el = s.el := by
  simp [returnResult]
@[simp] theorem returnResult_poll (d : Nat) : (s.returnResult c d).poll = s.poll := by
  simp [returnResult]
@[simp] theorem returnResult_lrLastLow (d : Nat) : (s.returnResult c d).lrLastLow = s.lrLastLow := by
  simp [returnResult]
@[simp] theorem returnResult_mp (d : Nat) : (s.returnResult c d).mp = .top := rfl
@[simp] theorem returnResult_mc (d : Nat) : (s.returnResult c d).mc = 0 := rfl
theorem returnResult_acc (d : Nat) : (s.returnResult c d).acc = (s.handle c d).acc := rfl
theorem returnResult_bitCnt (d : Nat) : (s.returnResult c d).bitCnt = (s.handle c d).bitCnt := rfl
theorem returnResult_gapNoted (d : Nat) : (s.returnResult c d).gapNoted = (s.handle c d).gapNoted := rfl
theorem returnResult_evbuf (d : Nat) : (s.returnResult c d).evbuf = (s.handle c d).evbuf := rfl
@[simp] theorem returnResult_evRdy (d : Nat) : (s.returnResult c d).evRdy = s.evRdy := by
  simp [returnResult]
theorem returnResult_evOvf (d : Nat) : (s.returnResult c d).evOvf = (s.handle c d).evOvf := rfl
@[simp] theorem returnResult_dir (d : Nat) : (s.returnResult c d).dir = s.dir := by
  simp [returnResult]
@[simp] theorem returnResult_lineOut (d : Nat) : (s.returnResult c d).lineOut = s.lineOut := by
  simp [returnResult]
@[simp] theorem returnResult_bound (d : Nat) : (s.returnResult c d).bound = s.bound := by
  simp [returnResult]
@[simp] theorem returnResult_pin (d : Nat) : (s.returnResult c d).pin = s.pin := by
  simp [returnResult]
@[simp] theorem returnResult_rej (d : Nat) : (s.returnResult c d).rej = s.rej := by
  simp [returnResult]
@[simp] theorem returnResult_rcause (d : Nat) : (s.returnResult c d).rcause = s.rcause := by
  simp [returnResult]
@[simp] theorem returnResult_lrto (d : Nat) : (s.returnResult c d).lrto = s.lrto := by
  simp [returnResult]
@[simp] theorem returnResult_padcut (d : Nat) : (s.returnResult c d).padcut = s.padcut := by
  simp [returnResult]
@[simp] theorem returnResult_diagRate (d : Nat) : (s.returnResult c d).diagRate = s.diagRate := by
  simp [returnResult]
@[simp] theorem returnResult_cmdLo (d : Nat) : (s.returnResult c d).cmdLo = s.cmdLo := by
  simp [returnResult]
@[simp] theorem returnResult_cmdHi (d : Nat) : (s.returnResult c d).cmdHi = s.cmdHi := by
  simp [returnResult]
@[simp] theorem returnResult_lineId (d : Nat) : (s.returnResult c d).lineId = s.lineId := by
  simp [returnResult]
@[simp] theorem returnResult_tick (d : Nat) : (s.returnResult c d).tick = s.tick := by
  simp [returnResult]
@[simp] theorem returnResult_lineIn (d : Nat) : (s.returnResult c d).lineIn = s.lineIn := by
  simp [returnResult]
@[simp] theorem returnResult_hostIn (d : Nat) : (s.returnResult c d).hostIn = s.hostIn := by
  simp [returnResult]
@[simp] theorem returnResult_hrdata (d : Nat) : (s.returnResult c d).hrdata = s.hrdata := by
  simp [returnResult]

/-- Everything `countSample` can do (R163 to R165). -/
theorem countSample_cases :
    (s.mc + 1 = c.tMeasCap ∧ s.countSample c = { s with mc := s.mc + 1 }.returnResult c 0) ∨
      (s.mc + 1 ≠ c.tMeasCap ∧ s.countSample c = { s with mc := s.mc + 1 }) := by
  by_cases h : s.mc + 1 = c.tMeasCap
  · exact .inl ⟨h, if_pos h⟩
  · exact .inr ⟨h, if_neg h⟩

@[simp] theorem countSample_phase : (s.countSample c).phase = s.phase := by
  unfold countSample; split <;> simp
@[simp] theorem countSample_fb : (s.countSample c).fb = s.fb := by
  unfold countSample; split <;> simp
@[simp] theorem countSample_nbytes : (s.countSample c).nbytes = s.nbytes := by
  unfold countSample; split <;> simp
@[simp] theorem countSample_mode : (s.countSample c).mode = s.mode := by
  unfold countSample; split <;> simp
@[simp] theorem countSample_mi : (s.countSample c).mi = s.mi := by
  unfold countSample; split <;> simp
@[simp] theorem countSample_timeout : (s.countSample c).timeout = s.timeout := by
  unfold countSample; split <;> simp
@[simp] theorem countSample_seg : (s.countSample c).seg = s.seg := by
  unfold countSample; split <;> simp
@[simp] theorem countSample_bitPos : (s.countSample c).bitPos = s.bitPos := by
  unfold countSample; split <;> simp
@[simp] theorem countSample_byteIdx : (s.countSample c).byteIdx = s.byteIdx := by
  unfold countSample; split <;> simp
@[simp] theorem countSample_el : (s.countSample c).el = s.el := by
  unfold countSample; split <;> simp
@[simp] theorem countSample_poll : (s.countSample c).poll = s.poll := by
  unfold countSample; split <;> simp
@[simp] theorem countSample_lrLastLow : (s.countSample c).lrLastLow = s.lrLastLow := by
  unfold countSample; split <;> simp
@[simp] theorem countSample_evRdy : (s.countSample c).evRdy = s.evRdy := by
  unfold countSample; split <;> simp
@[simp] theorem countSample_dir : (s.countSample c).dir = s.dir := by
  unfold countSample; split <;> simp
@[simp] theorem countSample_lineOut : (s.countSample c).lineOut = s.lineOut := by
  unfold countSample; split <;> simp
@[simp] theorem countSample_bound : (s.countSample c).bound = s.bound := by
  unfold countSample; split <;> simp
@[simp] theorem countSample_pin : (s.countSample c).pin = s.pin := by
  unfold countSample; split <;> simp
@[simp] theorem countSample_rej : (s.countSample c).rej = s.rej := by
  unfold countSample; split <;> simp
@[simp] theorem countSample_rcause : (s.countSample c).rcause = s.rcause := by
  unfold countSample; split <;> simp
@[simp] theorem countSample_lrto : (s.countSample c).lrto = s.lrto := by
  unfold countSample; split <;> simp
@[simp] theorem countSample_padcut : (s.countSample c).padcut = s.padcut := by
  unfold countSample; split <;> simp
@[simp] theorem countSample_diagRate : (s.countSample c).diagRate = s.diagRate := by
  unfold countSample; split <;> simp
@[simp] theorem countSample_cmdLo : (s.countSample c).cmdLo = s.cmdLo := by
  unfold countSample; split <;> simp
@[simp] theorem countSample_cmdHi : (s.countSample c).cmdHi = s.cmdHi := by
  unfold countSample; split <;> simp
@[simp] theorem countSample_lineId : (s.countSample c).lineId = s.lineId := by
  unfold countSample; split <;> simp
@[simp] theorem countSample_tick : (s.countSample c).tick = s.tick := by
  unfold countSample; split <;> simp
@[simp] theorem countSample_lineIn : (s.countSample c).lineIn = s.lineIn := by
  unfold countSample; split <;> simp
@[simp] theorem countSample_hostIn : (s.countSample c).hostIn = s.hostIn := by
  unfold countSample; split <;> simp
@[simp] theorem countSample_hrdata : (s.countSample c).hrdata = s.hrdata := by
  unfold countSample; split <;> simp
@[simp] theorem waitOutStep_phase (l : Level) : (s.waitOutStep c l).phase = s.phase := by
  unfold waitOutStep; split <;> simp
@[simp] theorem waitOutStep_fb (l : Level) : (s.waitOutStep c l).fb = s.fb := by
  unfold waitOutStep; split <;> simp
@[simp] theorem waitOutStep_nbytes (l : Level) : (s.waitOutStep c l).nbytes = s.nbytes := by
  unfold waitOutStep; split <;> simp
@[simp] theorem waitOutStep_mode (l : Level) : (s.waitOutStep c l).mode = s.mode := by
  unfold waitOutStep; split <;> simp
@[simp] theorem waitOutStep_mi (l : Level) : (s.waitOutStep c l).mi = s.mi := by
  unfold waitOutStep; split <;> simp
@[simp] theorem waitOutStep_timeout (l : Level) : (s.waitOutStep c l).timeout = s.timeout := by
  unfold waitOutStep; split <;> simp
@[simp] theorem waitOutStep_seg (l : Level) : (s.waitOutStep c l).seg = s.seg := by
  unfold waitOutStep; split <;> simp
@[simp] theorem waitOutStep_bitPos (l : Level) : (s.waitOutStep c l).bitPos = s.bitPos := by
  unfold waitOutStep; split <;> simp
@[simp] theorem waitOutStep_byteIdx (l : Level) : (s.waitOutStep c l).byteIdx = s.byteIdx := by
  unfold waitOutStep; split <;> simp
@[simp] theorem waitOutStep_el (l : Level) : (s.waitOutStep c l).el = s.el := by
  unfold waitOutStep; split <;> simp
@[simp] theorem waitOutStep_poll (l : Level) : (s.waitOutStep c l).poll = s.poll := by
  unfold waitOutStep; split <;> simp
@[simp] theorem waitOutStep_lrLastLow (l : Level) : (s.waitOutStep c l).lrLastLow = s.lrLastLow := by
  unfold waitOutStep; split <;> simp
@[simp] theorem waitOutStep_evRdy (l : Level) : (s.waitOutStep c l).evRdy = s.evRdy := by
  unfold waitOutStep; split <;> simp
@[simp] theorem waitOutStep_dir (l : Level) : (s.waitOutStep c l).dir = s.dir := by
  unfold waitOutStep; split <;> simp
@[simp] theorem waitOutStep_lineOut (l : Level) : (s.waitOutStep c l).lineOut = s.lineOut := by
  unfold waitOutStep; split <;> simp
@[simp] theorem waitOutStep_bound (l : Level) : (s.waitOutStep c l).bound = s.bound := by
  unfold waitOutStep; split <;> simp
@[simp] theorem waitOutStep_pin (l : Level) : (s.waitOutStep c l).pin = s.pin := by
  unfold waitOutStep; split <;> simp
@[simp] theorem waitOutStep_rej (l : Level) : (s.waitOutStep c l).rej = s.rej := by
  unfold waitOutStep; split <;> simp
@[simp] theorem waitOutStep_rcause (l : Level) : (s.waitOutStep c l).rcause = s.rcause := by
  unfold waitOutStep; split <;> simp
@[simp] theorem waitOutStep_lrto (l : Level) : (s.waitOutStep c l).lrto = s.lrto := by
  unfold waitOutStep; split <;> simp
@[simp] theorem waitOutStep_padcut (l : Level) : (s.waitOutStep c l).padcut = s.padcut := by
  unfold waitOutStep; split <;> simp
@[simp] theorem waitOutStep_diagRate (l : Level) : (s.waitOutStep c l).diagRate = s.diagRate := by
  unfold waitOutStep; split <;> simp
@[simp] theorem waitOutStep_cmdLo (l : Level) : (s.waitOutStep c l).cmdLo = s.cmdLo := by
  unfold waitOutStep; split <;> simp
@[simp] theorem waitOutStep_cmdHi (l : Level) : (s.waitOutStep c l).cmdHi = s.cmdHi := by
  unfold waitOutStep; split <;> simp
@[simp] theorem waitOutStep_lineId (l : Level) : (s.waitOutStep c l).lineId = s.lineId := by
  unfold waitOutStep; split <;> simp
@[simp] theorem waitOutStep_tick (l : Level) : (s.waitOutStep c l).tick = s.tick := by
  unfold waitOutStep; split <;> simp
@[simp] theorem waitOutStep_lineIn (l : Level) : (s.waitOutStep c l).lineIn = s.lineIn := by
  unfold waitOutStep; split <;> simp
@[simp] theorem waitOutStep_hostIn (l : Level) : (s.waitOutStep c l).hostIn = s.hostIn := by
  unfold waitOutStep; split <;> simp
@[simp] theorem waitOutStep_hrdata (l : Level) : (s.waitOutStep c l).hrdata = s.hrdata := by
  unfold waitOutStep; split <;> simp
@[simp] theorem waitStartStep_phase (l : Level) : (s.waitStartStep c l).phase = s.phase := by
  unfold waitStartStep; split <;> simp
@[simp] theorem waitStartStep_fb (l : Level) : (s.waitStartStep c l).fb = s.fb := by
  unfold waitStartStep; split <;> simp
@[simp] theorem waitStartStep_nbytes (l : Level) : (s.waitStartStep c l).nbytes = s.nbytes := by
  unfold waitStartStep; split <;> simp
@[simp] theorem waitStartStep_mode (l : Level) : (s.waitStartStep c l).mode = s.mode := by
  unfold waitStartStep; split <;> simp
@[simp] theorem waitStartStep_mi (l : Level) : (s.waitStartStep c l).mi = s.mi := by
  unfold waitStartStep; split <;> simp
@[simp] theorem waitStartStep_timeout (l : Level) : (s.waitStartStep c l).timeout = s.timeout := by
  unfold waitStartStep; split <;> simp
@[simp] theorem waitStartStep_seg (l : Level) : (s.waitStartStep c l).seg = s.seg := by
  unfold waitStartStep; split <;> simp
@[simp] theorem waitStartStep_bitPos (l : Level) : (s.waitStartStep c l).bitPos = s.bitPos := by
  unfold waitStartStep; split <;> simp
@[simp] theorem waitStartStep_byteIdx (l : Level) : (s.waitStartStep c l).byteIdx = s.byteIdx := by
  unfold waitStartStep; split <;> simp
@[simp] theorem waitStartStep_el (l : Level) : (s.waitStartStep c l).el = s.el := by
  unfold waitStartStep; split <;> simp
@[simp] theorem waitStartStep_poll (l : Level) : (s.waitStartStep c l).poll = s.poll := by
  unfold waitStartStep; split <;> simp
@[simp] theorem waitStartStep_lrLastLow (l : Level) : (s.waitStartStep c l).lrLastLow = s.lrLastLow := by
  unfold waitStartStep; split <;> simp
@[simp] theorem waitStartStep_evRdy (l : Level) : (s.waitStartStep c l).evRdy = s.evRdy := by
  unfold waitStartStep; split <;> simp
@[simp] theorem waitStartStep_dir (l : Level) : (s.waitStartStep c l).dir = s.dir := by
  unfold waitStartStep; split <;> simp
@[simp] theorem waitStartStep_lineOut (l : Level) : (s.waitStartStep c l).lineOut = s.lineOut := by
  unfold waitStartStep; split <;> simp
@[simp] theorem waitStartStep_bound (l : Level) : (s.waitStartStep c l).bound = s.bound := by
  unfold waitStartStep; split <;> simp
@[simp] theorem waitStartStep_pin (l : Level) : (s.waitStartStep c l).pin = s.pin := by
  unfold waitStartStep; split <;> simp
@[simp] theorem waitStartStep_rej (l : Level) : (s.waitStartStep c l).rej = s.rej := by
  unfold waitStartStep; split <;> simp
@[simp] theorem waitStartStep_rcause (l : Level) : (s.waitStartStep c l).rcause = s.rcause := by
  unfold waitStartStep; split <;> simp
@[simp] theorem waitStartStep_lrto (l : Level) : (s.waitStartStep c l).lrto = s.lrto := by
  unfold waitStartStep; split <;> simp
@[simp] theorem waitStartStep_padcut (l : Level) : (s.waitStartStep c l).padcut = s.padcut := by
  unfold waitStartStep; split <;> simp
@[simp] theorem waitStartStep_diagRate (l : Level) : (s.waitStartStep c l).diagRate = s.diagRate := by
  unfold waitStartStep; split <;> simp
@[simp] theorem waitStartStep_cmdLo (l : Level) : (s.waitStartStep c l).cmdLo = s.cmdLo := by
  unfold waitStartStep; split <;> simp
@[simp] theorem waitStartStep_cmdHi (l : Level) : (s.waitStartStep c l).cmdHi = s.cmdHi := by
  unfold waitStartStep; split <;> simp
@[simp] theorem waitStartStep_lineId (l : Level) : (s.waitStartStep c l).lineId = s.lineId := by
  unfold waitStartStep; split <;> simp
@[simp] theorem waitStartStep_tick (l : Level) : (s.waitStartStep c l).tick = s.tick := by
  unfold waitStartStep; split <;> simp
@[simp] theorem waitStartStep_lineIn (l : Level) : (s.waitStartStep c l).lineIn = s.lineIn := by
  unfold waitStartStep; split <;> simp
@[simp] theorem waitStartStep_hostIn (l : Level) : (s.waitStartStep c l).hostIn = s.hostIn := by
  unfold waitStartStep; split <;> simp
@[simp] theorem waitStartStep_hrdata (l : Level) : (s.waitStartStep c l).hrdata = s.hrdata := by
  unfold waitStartStep; split <;> simp
@[simp] theorem timeStep_phase (l : Level) : (s.timeStep c l).phase = s.phase := by
  unfold timeStep; split <;> simp
@[simp] theorem timeStep_fb (l : Level) : (s.timeStep c l).fb = s.fb := by
  unfold timeStep; split <;> simp
@[simp] theorem timeStep_nbytes (l : Level) : (s.timeStep c l).nbytes = s.nbytes := by
  unfold timeStep; split <;> simp
@[simp] theorem timeStep_mode (l : Level) : (s.timeStep c l).mode = s.mode := by
  unfold timeStep; split <;> simp
@[simp] theorem timeStep_mi (l : Level) : (s.timeStep c l).mi = s.mi := by
  unfold timeStep; split <;> simp
@[simp] theorem timeStep_timeout (l : Level) : (s.timeStep c l).timeout = s.timeout := by
  unfold timeStep; split <;> simp
@[simp] theorem timeStep_seg (l : Level) : (s.timeStep c l).seg = s.seg := by
  unfold timeStep; split <;> simp
@[simp] theorem timeStep_bitPos (l : Level) : (s.timeStep c l).bitPos = s.bitPos := by
  unfold timeStep; split <;> simp
@[simp] theorem timeStep_byteIdx (l : Level) : (s.timeStep c l).byteIdx = s.byteIdx := by
  unfold timeStep; split <;> simp
@[simp] theorem timeStep_el (l : Level) : (s.timeStep c l).el = s.el := by
  unfold timeStep; split <;> simp
@[simp] theorem timeStep_poll (l : Level) : (s.timeStep c l).poll = s.poll := by
  unfold timeStep; split <;> simp
@[simp] theorem timeStep_lrLastLow (l : Level) : (s.timeStep c l).lrLastLow = s.lrLastLow := by
  unfold timeStep; split <;> simp
@[simp] theorem timeStep_evRdy (l : Level) : (s.timeStep c l).evRdy = s.evRdy := by
  unfold timeStep; split <;> simp
@[simp] theorem timeStep_dir (l : Level) : (s.timeStep c l).dir = s.dir := by
  unfold timeStep; split <;> simp
@[simp] theorem timeStep_lineOut (l : Level) : (s.timeStep c l).lineOut = s.lineOut := by
  unfold timeStep; split <;> simp
@[simp] theorem timeStep_bound (l : Level) : (s.timeStep c l).bound = s.bound := by
  unfold timeStep; split <;> simp
@[simp] theorem timeStep_pin (l : Level) : (s.timeStep c l).pin = s.pin := by
  unfold timeStep; split <;> simp
@[simp] theorem timeStep_rej (l : Level) : (s.timeStep c l).rej = s.rej := by
  unfold timeStep; split <;> simp
@[simp] theorem timeStep_rcause (l : Level) : (s.timeStep c l).rcause = s.rcause := by
  unfold timeStep; split <;> simp
@[simp] theorem timeStep_lrto (l : Level) : (s.timeStep c l).lrto = s.lrto := by
  unfold timeStep; split <;> simp
@[simp] theorem timeStep_padcut (l : Level) : (s.timeStep c l).padcut = s.padcut := by
  unfold timeStep; split <;> simp
@[simp] theorem timeStep_diagRate (l : Level) : (s.timeStep c l).diagRate = s.diagRate := by
  unfold timeStep; split <;> simp
@[simp] theorem timeStep_cmdLo (l : Level) : (s.timeStep c l).cmdLo = s.cmdLo := by
  unfold timeStep; split <;> simp
@[simp] theorem timeStep_cmdHi (l : Level) : (s.timeStep c l).cmdHi = s.cmdHi := by
  unfold timeStep; split <;> simp
@[simp] theorem timeStep_lineId (l : Level) : (s.timeStep c l).lineId = s.lineId := by
  unfold timeStep; split <;> simp
@[simp] theorem timeStep_tick (l : Level) : (s.timeStep c l).tick = s.tick := by
  unfold timeStep; split <;> simp
@[simp] theorem timeStep_lineIn (l : Level) : (s.timeStep c l).lineIn = s.lineIn := by
  unfold timeStep; split <;> simp
@[simp] theorem timeStep_hostIn (l : Level) : (s.timeStep c l).hostIn = s.hostIn := by
  unfold timeStep; split <;> simp
@[simp] theorem timeStep_hrdata (l : Level) : (s.timeStep c l).hrdata = s.hrdata := by
  unfold timeStep; split <;> simp

/-! ### The tick of MON -/

@[simp] theorem monStep_fb (l : Level) : (s.monStep c l).fb = s.fb := by
  unfold monStep; (repeat' split) <;> simp
@[simp] theorem monStep_nbytes (l : Level) : (s.monStep c l).nbytes = s.nbytes := by
  unfold monStep; (repeat' split) <;> simp
@[simp] theorem monStep_mode (l : Level) : (s.monStep c l).mode = s.mode := by
  unfold monStep; (repeat' split) <;> simp
@[simp] theorem monStep_mi (l : Level) : (s.monStep c l).mi = s.mi := by
  unfold monStep; (repeat' split) <;> simp
@[simp] theorem monStep_timeout (l : Level) : (s.monStep c l).timeout = s.timeout := by
  unfold monStep; (repeat' split) <;> simp
@[simp] theorem monStep_seg (l : Level) : (s.monStep c l).seg = s.seg := by
  unfold monStep; (repeat' split) <;> simp
@[simp] theorem monStep_bitPos (l : Level) : (s.monStep c l).bitPos = s.bitPos := by
  unfold monStep; (repeat' split) <;> simp
@[simp] theorem monStep_byteIdx (l : Level) : (s.monStep c l).byteIdx = s.byteIdx := by
  unfold monStep; (repeat' split) <;> simp
@[simp] theorem monStep_poll (l : Level) : (s.monStep c l).poll = s.poll := by
  unfold monStep; (repeat' split) <;> simp
@[simp] theorem monStep_lrLastLow (l : Level) : (s.monStep c l).lrLastLow = s.lrLastLow := by
  unfold monStep; (repeat' split) <;> simp
@[simp] theorem monStep_dir (l : Level) : (s.monStep c l).dir = s.dir := by
  unfold monStep; (repeat' split) <;> simp
@[simp] theorem monStep_lineOut (l : Level) : (s.monStep c l).lineOut = s.lineOut := by
  unfold monStep; (repeat' split) <;> simp
@[simp] theorem monStep_bound (l : Level) : (s.monStep c l).bound = s.bound := by
  unfold monStep; (repeat' split) <;> simp
@[simp] theorem monStep_pin (l : Level) : (s.monStep c l).pin = s.pin := by
  unfold monStep; (repeat' split) <;> simp
@[simp] theorem monStep_rej (l : Level) : (s.monStep c l).rej = s.rej := by
  unfold monStep; (repeat' split) <;> simp
@[simp] theorem monStep_rcause (l : Level) : (s.monStep c l).rcause = s.rcause := by
  unfold monStep; (repeat' split) <;> simp
@[simp] theorem monStep_lrto (l : Level) : (s.monStep c l).lrto = s.lrto := by
  unfold monStep; (repeat' split) <;> simp
@[simp] theorem monStep_padcut (l : Level) : (s.monStep c l).padcut = s.padcut := by
  unfold monStep; (repeat' split) <;> simp
@[simp] theorem monStep_diagRate (l : Level) : (s.monStep c l).diagRate = s.diagRate := by
  unfold monStep; (repeat' split) <;> simp
@[simp] theorem monStep_cmdLo (l : Level) : (s.monStep c l).cmdLo = s.cmdLo := by
  unfold monStep; (repeat' split) <;> simp
@[simp] theorem monStep_cmdHi (l : Level) : (s.monStep c l).cmdHi = s.cmdHi := by
  unfold monStep; (repeat' split) <;> simp
@[simp] theorem monStep_lineId (l : Level) : (s.monStep c l).lineId = s.lineId := by
  unfold monStep; (repeat' split) <;> simp
@[simp] theorem monStep_tick (l : Level) : (s.monStep c l).tick = s.tick := by
  unfold monStep; (repeat' split) <;> simp
@[simp] theorem monStep_lineIn (l : Level) : (s.monStep c l).lineIn = s.lineIn := by
  unfold monStep; (repeat' split) <;> simp
@[simp] theorem monStep_hostIn (l : Level) : (s.monStep c l).hostIn = s.hostIn := by
  unfold monStep; (repeat' split) <;> simp
@[simp] theorem monStep_hrdata (l : Level) : (s.monStep c l).hrdata = s.hrdata := by
  unfold monStep; (repeat' split) <;> simp

@[simp] theorem monStep_el (l : Level) : (s.monStep c l).el = saturate c (s.el + 1) := by
  unfold monStep; (repeat' split) <;> simp

/-- The flush is the one way out of MON: at the loop head, once the timeout has passed (R162, R167). -/
theorem monStep_exit (l : Level) :
    (s.mp = .top ∧ s.timeout ≤ s.el ∧ s.monStep c l = (s.countElapsed c).flush) ∨
      (¬(s.mp = .top ∧ s.timeout ≤ s.el) ∧ (s.monStep c l).phase = s.phase ∧
        (s.monStep c l).evRdy = s.evRdy) := by
  unfold monStep
  split
  · split
    · rename_i h1 h2; exact .inl ⟨h1, h2, rfl⟩
    · rename_i h1 h2; exact .inr ⟨fun h => h2 h.2, by simp, by simp⟩
  all_goals (rename_i h1; exact .inr ⟨fun h => by simp [h1] at h, by simp, by simp⟩)

end Sys2Proof.Machine.State
end

