-- ==== Sys2Proof/Laws/Phase.lean ====
section
/-!
SUPPORT. What the transmit steps (R131 to R140) and the phase step (R22 step 4) can do, said once per
operation; a field that an operation never writes has a @[simp] lemma of its own.
-/

namespace Sys2Proof.Machine.State

variable (c : Config) (s : State)

/-- Everything a line-ready poll's decision can do (R131). -/
theorem decidePoll_cases :
    (c.tLrIdle ≤ s.el - s.lrLastLow ∧ s.decidePoll c = s.startFrame) ∨
      (s.el - s.lrLastLow < c.tLrIdle ∧ c.tLrTimeout ≤ s.el ∧
        s.decidePoll c = s.reportLineReadyTimeout.startFrame) ∨
      (s.el - s.lrLastLow < c.tLrIdle ∧ s.el < c.tLrTimeout ∧ s.decidePoll c = s) := by
  by_cases h : c.tLrIdle ≤ s.el - s.lrLastLow
  · exact .inl ⟨h, if_pos h⟩
  · by_cases h2 : c.tLrTimeout ≤ s.el
    · exact .inr (.inl ⟨Nat.lt_of_not_le h, h2, (if_neg h).trans (if_pos h2)⟩)
    · exact .inr (.inr ⟨Nat.lt_of_not_le h, Nat.lt_of_not_le h2, (if_neg h).trans (if_neg h2)⟩)

/-- Everything a tick of LR can do (R131). -/
theorem lrStep_cases (l : Level) :
    (s.poll + 1 = c.tPoll ∧ s.lrStep c l = ((s.countPoll c).recordPoll l).decidePoll c) ∨
      (s.poll + 1 ≠ c.tPoll ∧ s.lrStep c l = s.countPoll c) := by
  by_cases h : s.poll + 1 = c.tPoll
  · exact .inl ⟨h, if_pos h⟩
  · exact .inr ⟨h, if_neg h⟩

/-- Everything that can follow the delimiter of a bit (R138). -/
theorem nextSymbol_cases :
    (0 < s.bitPos.toNat ∧ s.nextSymbol c = s.startBit s.byteIdx (s.bitPos - 1)) ∨
      (s.bitPos = 0 ∧ s.byteIdx.toNat + 1 < s.nbytes.toNat ∧
        s.nextSymbol c = s.startBit (s.byteIdx + 1) 7) ∨
      (s.bitPos = 0 ∧ s.nbytes.toNat ≤ s.byteIdx.toNat + 1 ∧ s.nextSymbol c = s.endFrame c) := by
  by_cases h : 0 < s.bitPos.toNat
  · exact .inl ⟨h, if_pos h⟩
  · have h0 : s.bitPos = 0 := by
      apply BitVec.eq_of_toNat_eq
      simpa using h
    by_cases h2 : s.byteIdx.toNat + 1 < s.nbytes.toNat
    · exact .inr (.inl ⟨h0, h2, (if_neg h).trans (if_pos h2)⟩)
    · exact .inr (.inr ⟨h0, Nat.le_of_not_lt h2, (if_neg h).trans (if_neg h2)⟩)

/-- Everything a tick of PAD can do (R140). -/
theorem padStep_cases (l : Level) :
    (s.poll + 1 = c.tPoll ∧ s.padStep c l = (s.countPoll c).decidePad c l) ∨
      (s.poll + 1 ≠ c.tPoll ∧ s.padStep c l = s.countPoll c) := by
  by_cases h : s.poll + 1 = c.tPoll
  · exact .inl ⟨h, if_pos h⟩
  · exact .inr ⟨h, if_neg h⟩

/-! ### decidePoll -/

@[simp] theorem decidePoll_fb : (s.decidePoll c).fb = s.fb := by
  unfold decidePoll; (repeat' split) <;> simp
@[simp] theorem decidePoll_nbytes : (s.decidePoll c).nbytes = s.nbytes := by
  unfold decidePoll; (repeat' split) <;> simp
@[simp] theorem decidePoll_mode : (s.decidePoll c).mode = s.mode := by
  unfold decidePoll; (repeat' split) <;> simp
@[simp] theorem decidePoll_mi : (s.decidePoll c).mi = s.mi := by
  unfold decidePoll; (repeat' split) <;> simp
@[simp] theorem decidePoll_timeout : (s.decidePoll c).timeout = s.timeout := by
  unfold decidePoll; (repeat' split) <;> simp
@[simp] theorem decidePoll_mp : (s.decidePoll c).mp = s.mp := by
  unfold decidePoll; (repeat' split) <;> simp
@[simp] theorem decidePoll_mc : (s.decidePoll c).mc = s.mc := by
  unfold decidePoll; (repeat' split) <;> simp
@[simp] theorem decidePoll_acc : (s.decidePoll c).acc = s.acc := by
  unfold decidePoll; (repeat' split) <;> simp
@[simp] theorem decidePoll_bitCnt : (s.decidePoll c).bitCnt = s.bitCnt := by
  unfold decidePoll; (repeat' split) <;> simp
@[simp] theorem decidePoll_gapNoted : (s.decidePoll c).gapNoted = s.gapNoted := by
  unfold decidePoll; (repeat' split) <;> simp
@[simp] theorem decidePoll_evbuf : (s.decidePoll c).evbuf = s.evbuf := by
  unfold decidePoll; (repeat' split) <;> simp
@[simp] theorem decidePoll_evRdy : (s.decidePoll c).evRdy = s.evRdy := by
  unfold decidePoll; (repeat' split) <;> simp
@[simp] theorem decidePoll_evOvf : (s.decidePoll c).evOvf = s.evOvf := by
  unfold decidePoll; (repeat' split) <;> simp
@[simp] theorem decidePoll_bound : (s.decidePoll c).bound = s.bound := by
  unfold decidePoll; (repeat' split) <;> simp
@[simp] theorem decidePoll_pin : (s.decidePoll c).pin = s.pin := by
  unfold decidePoll; (repeat' split) <;> simp
@[simp] theorem decidePoll_rej : (s.decidePoll c).rej = s.rej := by
  unfold decidePoll; (repeat' split) <;> simp
@[simp] theorem decidePoll_rcause : (s.decidePoll c).rcause = s.rcause := by
  unfold decidePoll; (repeat' split) <;> simp
@[simp] theorem decidePoll_diagRate : (s.decidePoll c).diagRate = s.diagRate := by
  unfold decidePoll; (repeat' split) <;> simp
@[simp] theorem decidePoll_cmdLo : (s.decidePoll c).cmdLo = s.cmdLo := by
  unfold decidePoll; (repeat' split) <;> simp
@[simp] theorem decidePoll_cmdHi : (s.decidePoll c).cmdHi = s.cmdHi := by
  unfold decidePoll; (repeat' split) <;> simp
@[simp] theorem decidePoll_lineId : (s.decidePoll c).lineId = s.lineId := by
  unfold decidePoll; (repeat' split) <;> simp
@[simp] theorem decidePoll_tick : (s.decidePoll c).tick = s.tick := by
  unfold decidePoll; (repeat' split) <;> simp
@[simp] theorem decidePoll_lineIn : (s.decidePoll c).lineIn = s.lineIn := by
  unfold decidePoll; (repeat' split) <;> simp
@[simp] theorem decidePoll_hostIn : (s.decidePoll c).hostIn = s.hostIn := by
  unfold decidePoll; (repeat' split) <;> simp
@[simp] theorem decidePoll_hrdata : (s.decidePoll c).hrdata = s.hrdata := by
  unfold decidePoll; (repeat' split) <;> simp
@[simp] theorem decidePoll_bitPos : (s.decidePoll c).bitPos = s.bitPos := by
  unfold decidePoll; (repeat' split) <;> simp
@[simp] theorem decidePoll_byteIdx : (s.decidePoll c).byteIdx = s.byteIdx := by
  unfold decidePoll; (repeat' split) <;> simp
@[simp] theorem decidePoll_poll : (s.decidePoll c).poll = s.poll := by
  unfold decidePoll; (repeat' split) <;> simp
@[simp] theorem decidePoll_lrLastLow : (s.decidePoll c).lrLastLow = s.lrLastLow := by
  unfold decidePoll; (repeat' split) <;> simp
@[simp] theorem decidePoll_padcut : (s.decidePoll c).padcut = s.padcut := by
  unfold decidePoll; (repeat' split) <;> simp

/-! ### lrStep -/

@[simp] theorem lrStep_fb (l : Level) : (s.lrStep c l).fb = s.fb := by
  unfold lrStep; (repeat' split) <;> simp
@[simp] theorem lrStep_nbytes (l : Level) : (s.lrStep c l).nbytes = s.nbytes := by
  unfold lrStep; (repeat' split) <;> simp
@[simp] theorem lrStep_mode (l : Level) : (s.lrStep c l).mode = s.mode := by
  unfold lrStep; (repeat' split) <;> simp
@[simp] theorem lrStep_mi (l : Level) : (s.lrStep c l).mi = s.mi := by
  unfold lrStep; (repeat' split) <;> simp
@[simp] theorem lrStep_timeout (l : Level) : (s.lrStep c l).timeout = s.timeout := by
  unfold lrStep; (repeat' split) <;> simp
@[simp] theorem lrStep_mp (l : Level) : (s.lrStep c l).mp = s.mp := by
  unfold lrStep; (repeat' split) <;> simp
@[simp] theorem lrStep_mc (l : Level) : (s.lrStep c l).mc = s.mc := by
  unfold lrStep; (repeat' split) <;> simp
@[simp] theorem lrStep_acc (l : Level) : (s.lrStep c l).acc = s.acc := by
  unfold lrStep; (repeat' split) <;> simp
@[simp] theorem lrStep_bitCnt (l : Level) : (s.lrStep c l).bitCnt = s.bitCnt := by
  unfold lrStep; (repeat' split) <;> simp
@[simp] theorem lrStep_gapNoted (l : Level) : (s.lrStep c l).gapNoted = s.gapNoted := by
  unfold lrStep; (repeat' split) <;> simp
@[simp] theorem lrStep_evbuf (l : Level) : (s.lrStep c l).evbuf = s.evbuf := by
  unfold lrStep; (repeat' split) <;> simp
@[simp] theorem lrStep_evRdy (l : Level) : (s.lrStep c l).evRdy = s.evRdy := by
  unfold lrStep; (repeat' split) <;> simp
@[simp] theorem lrStep_evOvf (l : Level) : (s.lrStep c l).evOvf = s.evOvf := by
  unfold lrStep; (repeat' split) <;> simp
@[simp] theorem lrStep_bound (l : Level) : (s.lrStep c l).bound = s.bound := by
  unfold lrStep; (repeat' split) <;> simp
@[simp] theorem lrStep_pin (l : Level) : (s.lrStep c l).pin = s.pin := by
  unfold lrStep; (repeat' split) <;> simp
@[simp] theorem lrStep_rej (l : Level) : (s.lrStep c l).rej = s.rej := by
  unfold lrStep; (repeat' split) <;> simp
@[simp] theorem lrStep_rcause (l : Level) : (s.lrStep c l).rcause = s.rcause := by
  unfold lrStep; (repeat' split) <;> simp
@[simp] theorem lrStep_diagRate (l : Level) : (s.lrStep c l).diagRate = s.diagRate := by
  unfold lrStep; (repeat' split) <;> simp
@[simp] theorem lrStep_cmdLo (l : Level) : (s.lrStep c l).cmdLo = s.cmdLo := by
  unfold lrStep; (repeat' split) <;> simp
@[simp] theorem lrStep_cmdHi (l : Level) : (s.lrStep c l).cmdHi = s.cmdHi := by
  unfold lrStep; (repeat' split) <;> simp
@[simp] theorem lrStep_lineId (l : Level) : (s.lrStep c l).lineId = s.lineId := by
  unfold lrStep; (repeat' split) <;> simp
@[simp] theorem lrStep_tick (l : Level) : (s.lrStep c l).tick = s.tick := by
  unfold lrStep; (repeat' split) <;> simp
@[simp] theorem lrStep_lineIn (l : Level) : (s.lrStep c l).lineIn = s.lineIn := by
  unfold lrStep; (repeat' split) <;> simp
@[simp] theorem lrStep_hostIn (l : Level) : (s.lrStep c l).hostIn = s.hostIn := by
  unfold lrStep; (repeat' split) <;> simp
@[simp] theorem lrStep_hrdata (l : Level) : (s.lrStep c l).hrdata = s.hrdata := by
  unfold lrStep; (repeat' split) <;> simp
@[simp] theorem lrStep_bitPos (l : Level) : (s.lrStep c l).bitPos = s.bitPos := by
  unfold lrStep; (repeat' split) <;> simp
@[simp] theorem lrStep_byteIdx (l : Level) : (s.lrStep c l).byteIdx = s.byteIdx := by
  unfold lrStep; (repeat' split) <;> simp
@[simp] theorem lrStep_padcut (l : Level) : (s.lrStep c l).padcut = s.padcut := by
  unfold lrStep; (repeat' split) <;> simp

/-! ### syncLoStep -/

@[simp] theorem syncLoStep_fb : (s.syncLoStep c).fb = s.fb := by
  unfold syncLoStep; (repeat' split) <;> simp
@[simp] theorem syncLoStep_nbytes : (s.syncLoStep c).nbytes = s.nbytes := by
  unfold syncLoStep; (repeat' split) <;> simp
@[simp] theorem syncLoStep_mode : (s.syncLoStep c).mode = s.mode := by
  unfold syncLoStep; (repeat' split) <;> simp
@[simp] theorem syncLoStep_mi : (s.syncLoStep c).mi = s.mi := by
  unfold syncLoStep; (repeat' split) <;> simp
@[simp] theorem syncLoStep_timeout : (s.syncLoStep c).timeout = s.timeout := by
  unfold syncLoStep; (repeat' split) <;> simp
@[simp] theorem syncLoStep_mp : (s.syncLoStep c).mp = s.mp := by
  unfold syncLoStep; (repeat' split) <;> simp
@[simp] theorem syncLoStep_mc : (s.syncLoStep c).mc = s.mc := by
  unfold syncLoStep; (repeat' split) <;> simp
@[simp] theorem syncLoStep_acc : (s.syncLoStep c).acc = s.acc := by
  unfold syncLoStep; (repeat' split) <;> simp
@[simp] theorem syncLoStep_bitCnt : (s.syncLoStep c).bitCnt = s.bitCnt := by
  unfold syncLoStep; (repeat' split) <;> simp
@[simp] theorem syncLoStep_gapNoted : (s.syncLoStep c).gapNoted = s.gapNoted := by
  unfold syncLoStep; (repeat' split) <;> simp
@[simp] theorem syncLoStep_evbuf : (s.syncLoStep c).evbuf = s.evbuf := by
  unfold syncLoStep; (repeat' split) <;> simp
@[simp] theorem syncLoStep_evRdy : (s.syncLoStep c).evRdy = s.evRdy := by
  unfold syncLoStep; (repeat' split) <;> simp
@[simp] theorem syncLoStep_evOvf : (s.syncLoStep c).evOvf = s.evOvf := by
  unfold syncLoStep; (repeat' split) <;> simp
@[simp] theorem syncLoStep_bound : (s.syncLoStep c).bound = s.bound := by
  unfold syncLoStep; (repeat' split) <;> simp
@[simp] theorem syncLoStep_pin : (s.syncLoStep c).pin = s.pin := by
  unfold syncLoStep; (repeat' split) <;> simp
@[simp] theorem syncLoStep_rej : (s.syncLoStep c).rej = s.rej := by
  unfold syncLoStep; (repeat' split) <;> simp
@[simp] theorem syncLoStep_rcause : (s.syncLoStep c).rcause = s.rcause := by
  unfold syncLoStep; (repeat' split) <;> simp
@[simp] theorem syncLoStep_diagRate : (s.syncLoStep c).diagRate = s.diagRate := by
  unfold syncLoStep; (repeat' split) <;> simp
@[simp] theorem syncLoStep_cmdLo : (s.syncLoStep c).cmdLo = s.cmdLo := by
  unfold syncLoStep; (repeat' split) <;> simp
@[simp] theorem syncLoStep_cmdHi : (s.syncLoStep c).cmdHi = s.cmdHi := by
  unfold syncLoStep; (repeat' split) <;> simp
@[simp] theorem syncLoStep_lineId : (s.syncLoStep c).lineId = s.lineId := by
  unfold syncLoStep; (repeat' split) <;> simp
@[simp] theorem syncLoStep_tick : (s.syncLoStep c).tick = s.tick := by
  unfold syncLoStep; (repeat' split) <;> simp
@[simp] theorem syncLoStep_lineIn : (s.syncLoStep c).lineIn = s.lineIn := by
  unfold syncLoStep; (repeat' split) <;> simp
@[simp] theorem syncLoStep_hostIn : (s.syncLoStep c).hostIn = s.hostIn := by
  unfold syncLoStep; (repeat' split) <;> simp
@[simp] theorem syncLoStep_hrdata : (s.syncLoStep c).hrdata = s.hrdata := by
  unfold syncLoStep; (repeat' split) <;> simp
@[simp] theorem syncLoStep_bitPos : (s.syncLoStep c).bitPos = s.bitPos := by
  unfold syncLoStep; (repeat' split) <;> simp
@[simp] theorem syncLoStep_byteIdx : (s.syncLoStep c).byteIdx = s.byteIdx := by
  unfold syncLoStep; (repeat' split) <;> simp
@[simp] theorem syncLoStep_poll : (s.syncLoStep c).poll = s.poll := by
  unfold syncLoStep; (repeat' split) <;> simp
@[simp] theorem syncLoStep_lrLastLow : (s.syncLoStep c).lrLastLow = s.lrLastLow := by
  unfold syncLoStep; (repeat' split) <;> simp
@[simp] theorem syncLoStep_dir : (s.syncLoStep c).dir = s.dir := by
  unfold syncLoStep; (repeat' split) <;> simp
@[simp] theorem syncLoStep_lrto : (s.syncLoStep c).lrto = s.lrto := by
  unfold syncLoStep; (repeat' split) <;> simp
@[simp] theorem syncLoStep_padcut : (s.syncLoStep c).padcut = s.padcut := by
  unfold syncLoStep; (repeat' split) <;> simp

/-! ### syncHiStep -/

@[simp] theorem syncHiStep_fb : (s.syncHiStep c).fb = s.fb := by
  unfold syncHiStep; (repeat' split) <;> simp
@[simp] theorem syncHiStep_nbytes : (s.syncHiStep c).nbytes = s.nbytes := by
  unfold syncHiStep; (repeat' split) <;> simp
@[simp] theorem syncHiStep_mode : (s.syncHiStep c).mode = s.mode := by
  unfold syncHiStep; (repeat' split) <;> simp
@[simp] theorem syncHiStep_mi : (s.syncHiStep c).mi = s.mi := by
  unfold syncHiStep; (repeat' split) <;> simp
@[simp] theorem syncHiStep_timeout : (s.syncHiStep c).timeout = s.timeout := by
  unfold syncHiStep; (repeat' split) <;> simp
@[simp] theorem syncHiStep_mp : (s.syncHiStep c).mp = s.mp := by
  unfold syncHiStep; (repeat' split) <;> simp
@[simp] theorem syncHiStep_mc : (s.syncHiStep c).mc = s.mc := by
  unfold syncHiStep; (repeat' split) <;> simp
@[simp] theorem syncHiStep_acc : (s.syncHiStep c).acc = s.acc := by
  unfold syncHiStep; (repeat' split) <;> simp
@[simp] theorem syncHiStep_bitCnt : (s.syncHiStep c).bitCnt = s.bitCnt := by
  unfold syncHiStep; (repeat' split) <;> simp
@[simp] theorem syncHiStep_gapNoted : (s.syncHiStep c).gapNoted = s.gapNoted := by
  unfold syncHiStep; (repeat' split) <;> simp
@[simp] theorem syncHiStep_evbuf : (s.syncHiStep c).evbuf = s.evbuf := by
  unfold syncHiStep; (repeat' split) <;> simp
@[simp] theorem syncHiStep_evRdy : (s.syncHiStep c).evRdy = s.evRdy := by
  unfold syncHiStep; (repeat' split) <;> simp
@[simp] theorem syncHiStep_evOvf : (s.syncHiStep c).evOvf = s.evOvf := by
  unfold syncHiStep; (repeat' split) <;> simp
@[simp] theorem syncHiStep_bound : (s.syncHiStep c).bound = s.bound := by
  unfold syncHiStep; (repeat' split) <;> simp
@[simp] theorem syncHiStep_pin : (s.syncHiStep c).pin = s.pin := by
  unfold syncHiStep; (repeat' split) <;> simp
@[simp] theorem syncHiStep_rej : (s.syncHiStep c).rej = s.rej := by
  unfold syncHiStep; (repeat' split) <;> simp
@[simp] theorem syncHiStep_rcause : (s.syncHiStep c).rcause = s.rcause := by
  unfold syncHiStep; (repeat' split) <;> simp
@[simp] theorem syncHiStep_diagRate : (s.syncHiStep c).diagRate = s.diagRate := by
  unfold syncHiStep; (repeat' split) <;> simp
@[simp] theorem syncHiStep_cmdLo : (s.syncHiStep c).cmdLo = s.cmdLo := by
  unfold syncHiStep; (repeat' split) <;> simp
@[simp] theorem syncHiStep_cmdHi : (s.syncHiStep c).cmdHi = s.cmdHi := by
  unfold syncHiStep; (repeat' split) <;> simp
@[simp] theorem syncHiStep_lineId : (s.syncHiStep c).lineId = s.lineId := by
  unfold syncHiStep; (repeat' split) <;> simp
@[simp] theorem syncHiStep_tick : (s.syncHiStep c).tick = s.tick := by
  unfold syncHiStep; (repeat' split) <;> simp
@[simp] theorem syncHiStep_lineIn : (s.syncHiStep c).lineIn = s.lineIn := by
  unfold syncHiStep; (repeat' split) <;> simp
@[simp] theorem syncHiStep_hostIn : (s.syncHiStep c).hostIn = s.hostIn := by
  unfold syncHiStep; (repeat' split) <;> simp
@[simp] theorem syncHiStep_hrdata : (s.syncHiStep c).hrdata = s.hrdata := by
  unfold syncHiStep; (repeat' split) <;> simp
@[simp] theorem syncHiStep_poll : (s.syncHiStep c).poll = s.poll := by
  unfold syncHiStep; (repeat' split) <;> simp
@[simp] theorem syncHiStep_lrLastLow : (s.syncHiStep c).lrLastLow = s.lrLastLow := by
  unfold syncHiStep; (repeat' split) <;> simp
@[simp] theorem syncHiStep_dir : (s.syncHiStep c).dir = s.dir := by
  unfold syncHiStep; (repeat' split) <;> simp
@[simp] theorem syncHiStep_lrto : (s.syncHiStep c).lrto = s.lrto := by
  unfold syncHiStep; (repeat' split) <;> simp
@[simp] theorem syncHiStep_padcut : (s.syncHiStep c).padcut = s.padcut := by
  unfold syncHiStep; (repeat' split) <;> simp

/-! ### bitLoStep -/

@[simp] theorem bitLoStep_fb : (s.bitLoStep c).fb = s.fb := by
  unfold bitLoStep; (repeat' split) <;> simp
@[simp] theorem bitLoStep_nbytes : (s.bitLoStep c).nbytes = s.nbytes := by
  unfold bitLoStep; (repeat' split) <;> simp
@[simp] theorem bitLoStep_mode : (s.bitLoStep c).mode = s.mode := by
  unfold bitLoStep; (repeat' split) <;> simp
@[simp] theorem bitLoStep_mi : (s.bitLoStep c).mi = s.mi := by
  unfold bitLoStep; (repeat' split) <;> simp
@[simp] theorem bitLoStep_timeout : (s.bitLoStep c).timeout = s.timeout := by
  unfold bitLoStep; (repeat' split) <;> simp
@[simp] theorem bitLoStep_mp : (s.bitLoStep c).mp = s.mp := by
  unfold bitLoStep; (repeat' split) <;> simp
@[simp] theorem bitLoStep_mc : (s.bitLoStep c).mc = s.mc := by
  unfold bitLoStep; (repeat' split) <;> simp
@[simp] theorem bitLoStep_acc : (s.bitLoStep c).acc = s.acc := by
  unfold bitLoStep; (repeat' split) <;> simp
@[simp] theorem bitLoStep_bitCnt : (s.bitLoStep c).bitCnt = s.bitCnt := by
  unfold bitLoStep; (repeat' split) <;> simp
@[simp] theorem bitLoStep_gapNoted : (s.bitLoStep c).gapNoted = s.gapNoted := by
  unfold bitLoStep; (repeat' split) <;> simp
@[simp] theorem bitLoStep_evbuf : (s.bitLoStep c).evbuf = s.evbuf := by
  unfold bitLoStep; (repeat' split) <;> simp
@[simp] theorem bitLoStep_evRdy : (s.bitLoStep c).evRdy = s.evRdy := by
  unfold bitLoStep; (repeat' split) <;> simp
@[simp] theorem bitLoStep_evOvf : (s.bitLoStep c).evOvf = s.evOvf := by
  unfold bitLoStep; (repeat' split) <;> simp
@[simp] theorem bitLoStep_bound : (s.bitLoStep c).bound = s.bound := by
  unfold bitLoStep; (repeat' split) <;> simp
@[simp] theorem bitLoStep_pin : (s.bitLoStep c).pin = s.pin := by
  unfold bitLoStep; (repeat' split) <;> simp
@[simp] theorem bitLoStep_rej : (s.bitLoStep c).rej = s.rej := by
  unfold bitLoStep; (repeat' split) <;> simp
@[simp] theorem bitLoStep_rcause : (s.bitLoStep c).rcause = s.rcause := by
  unfold bitLoStep; (repeat' split) <;> simp
@[simp] theorem bitLoStep_diagRate : (s.bitLoStep c).diagRate = s.diagRate := by
  unfold bitLoStep; (repeat' split) <;> simp
@[simp] theorem bitLoStep_cmdLo : (s.bitLoStep c).cmdLo = s.cmdLo := by
  unfold bitLoStep; (repeat' split) <;> simp
@[simp] theorem bitLoStep_cmdHi : (s.bitLoStep c).cmdHi = s.cmdHi := by
  unfold bitLoStep; (repeat' split) <;> simp
@[simp] theorem bitLoStep_lineId : (s.bitLoStep c).lineId = s.lineId := by
  unfold bitLoStep; (repeat' split) <;> simp
@[simp] theorem bitLoStep_tick : (s.bitLoStep c).tick = s.tick := by
  unfold bitLoStep; (repeat' split) <;> simp
@[simp] theorem bitLoStep_lineIn : (s.bitLoStep c).lineIn = s.lineIn := by
  unfold bitLoStep; (repeat' split) <;> simp
@[simp] theorem bitLoStep_hostIn : (s.bitLoStep c).hostIn = s.hostIn := by
  unfold bitLoStep; (repeat' split) <;> simp
@[simp] theorem bitLoStep_hrdata : (s.bitLoStep c).hrdata = s.hrdata := by
  unfold bitLoStep; (repeat' split) <;> simp
@[simp] theorem bitLoStep_bitPos : (s.bitLoStep c).bitPos = s.bitPos := by
  unfold bitLoStep; (repeat' split) <;> simp
@[simp] theorem bitLoStep_byteIdx : (s.bitLoStep c).byteIdx = s.byteIdx := by
  unfold bitLoStep; (repeat' split) <;> simp
@[simp] theorem bitLoStep_poll : (s.bitLoStep c).poll = s.poll := by
  unfold bitLoStep; (repeat' split) <;> simp
@[simp] theorem bitLoStep_lrLastLow : (s.bitLoStep c).lrLastLow = s.lrLastLow := by
  unfold bitLoStep; (repeat' split) <;> simp
@[simp] theorem bitLoStep_dir : (s.bitLoStep c).dir = s.dir := by
  unfold bitLoStep; (repeat' split) <;> simp
@[simp] theorem bitLoStep_lrto : (s.bitLoStep c).lrto = s.lrto := by
  unfold bitLoStep; (repeat' split) <;> simp
@[simp] theorem bitLoStep_padcut : (s.bitLoStep c).padcut = s.padcut := by
  unfold bitLoStep; (repeat' split) <;> simp

/-! ### nextSymbol -/

@[simp] theorem nextSymbol_fb : (s.nextSymbol c).fb = s.fb := by
  unfold nextSymbol; (repeat' split) <;> simp
@[simp] theorem nextSymbol_nbytes : (s.nextSymbol c).nbytes = s.nbytes := by
  unfold nextSymbol; (repeat' split) <;> simp
@[simp] theorem nextSymbol_mode : (s.nextSymbol c).mode = s.mode := by
  unfold nextSymbol; (repeat' split) <;> simp
@[simp] theorem nextSymbol_mi : (s.nextSymbol c).mi = s.mi := by
  unfold nextSymbol; (repeat' split) <;> simp
@[simp] theorem nextSymbol_timeout : (s.nextSymbol c).timeout = s.timeout := by
  unfold nextSymbol; (repeat' split) <;> simp
@[simp] theorem nextSymbol_mp : (s.nextSymbol c).mp = s.mp := by
  unfold nextSymbol; (repeat' split) <;> simp
@[simp] theorem nextSymbol_mc : (s.nextSymbol c).mc = s.mc := by
  unfold nextSymbol; (repeat' split) <;> simp
@[simp] theorem nextSymbol_acc : (s.nextSymbol c).acc = s.acc := by
  unfold nextSymbol; (repeat' split) <;> simp
@[simp] theorem nextSymbol_bitCnt : (s.nextSymbol c).bitCnt = s.bitCnt := by
  unfold nextSymbol; (repeat' split) <;> simp
@[simp] theorem nextSymbol_gapNoted : (s.nextSymbol c).gapNoted = s.gapNoted := by
  unfold nextSymbol; (repeat' split) <;> simp
@[simp] theorem nextSymbol_evbuf : (s.nextSymbol c).evbuf = s.evbuf := by
  unfold nextSymbol; (repeat' split) <;> simp
@[simp] theorem nextSymbol_evRdy : (s.nextSymbol c).evRdy = s.evRdy := by
  unfold nextSymbol; (repeat' split) <;> simp
@[simp] theorem nextSymbol_evOvf : (s.nextSymbol c).evOvf = s.evOvf := by
  unfold nextSymbol; (repeat' split) <;> simp
@[simp] theorem nextSymbol_bound : (s.nextSymbol c).bound = s.bound := by
  unfold nextSymbol; (repeat' split) <;> simp
@[simp] theorem nextSymbol_pin : (s.nextSymbol c).pin = s.pin := by
  unfold nextSymbol; (repeat' split) <;> simp
@[simp] theorem nextSymbol_rej : (s.nextSymbol c).rej = s.rej := by
  unfold nextSymbol; (repeat' split) <;> simp
@[simp] theorem nextSymbol_rcause : (s.nextSymbol c).rcause = s.rcause := by
  unfold nextSymbol; (repeat' split) <;> simp
@[simp] theorem nextSymbol_diagRate : (s.nextSymbol c).diagRate = s.diagRate := by
  unfold nextSymbol; (repeat' split) <;> simp
@[simp] theorem nextSymbol_cmdLo : (s.nextSymbol c).cmdLo = s.cmdLo := by
  unfold nextSymbol; (repeat' split) <;> simp
@[simp] theorem nextSymbol_cmdHi : (s.nextSymbol c).cmdHi = s.cmdHi := by
  unfold nextSymbol; (repeat' split) <;> simp
@[simp] theorem nextSymbol_lineId : (s.nextSymbol c).lineId = s.lineId := by
  unfold nextSymbol; (repeat' split) <;> simp
@[simp] theorem nextSymbol_tick : (s.nextSymbol c).tick = s.tick := by
  unfold nextSymbol; (repeat' split) <;> simp
@[simp] theorem nextSymbol_lineIn : (s.nextSymbol c).lineIn = s.lineIn := by
  unfold nextSymbol; (repeat' split) <;> simp
@[simp] theorem nextSymbol_hostIn : (s.nextSymbol c).hostIn = s.hostIn := by
  unfold nextSymbol; (repeat' split) <;> simp
@[simp] theorem nextSymbol_hrdata : (s.nextSymbol c).hrdata = s.hrdata := by
  unfold nextSymbol; (repeat' split) <;> simp
@[simp] theorem nextSymbol_lrLastLow : (s.nextSymbol c).lrLastLow = s.lrLastLow := by
  unfold nextSymbol; (repeat' split) <;> simp
@[simp] theorem nextSymbol_lrto : (s.nextSymbol c).lrto = s.lrto := by
  unfold nextSymbol; (repeat' split) <;> simp
@[simp] theorem nextSymbol_padcut : (s.nextSymbol c).padcut = s.padcut := by
  unfold nextSymbol; (repeat' split) <;> simp

/-! ### bitHiStep -/

@[simp] theorem bitHiStep_fb : (s.bitHiStep c).fb = s.fb := by
  unfold bitHiStep; (repeat' split) <;> simp
@[simp] theorem bitHiStep_nbytes : (s.bitHiStep c).nbytes = s.nbytes := by
  unfold bitHiStep; (repeat' split) <;> simp
@[simp] theorem bitHiStep_mode : (s.bitHiStep c).mode = s.mode := by
  unfold bitHiStep; (repeat' split) <;> simp
@[simp] theorem bitHiStep_mi : (s.bitHiStep c).mi = s.mi := by
  unfold bitHiStep; (repeat' split) <;> simp
@[simp] theorem bitHiStep_timeout : (s.bitHiStep c).timeout = s.timeout := by
  unfold bitHiStep; (repeat' split) <;> simp
@[simp] theorem bitHiStep_mp : (s.bitHiStep c).mp = s.mp := by
  unfold bitHiStep; (repeat' split) <;> simp
@[simp] theorem bitHiStep_mc : (s.bitHiStep c).mc = s.mc := by
  unfold bitHiStep; (repeat' split) <;> simp
@[simp] theorem bitHiStep_acc : (s.bitHiStep c).acc = s.acc := by
  unfold bitHiStep; (repeat' split) <;> simp
@[simp] theorem bitHiStep_bitCnt : (s.bitHiStep c).bitCnt = s.bitCnt := by
  unfold bitHiStep; (repeat' split) <;> simp
@[simp] theorem bitHiStep_gapNoted : (s.bitHiStep c).gapNoted = s.gapNoted := by
  unfold bitHiStep; (repeat' split) <;> simp
@[simp] theorem bitHiStep_evbuf : (s.bitHiStep c).evbuf = s.evbuf := by
  unfold bitHiStep; (repeat' split) <;> simp
@[simp] theorem bitHiStep_evRdy : (s.bitHiStep c).evRdy = s.evRdy := by
  unfold bitHiStep; (repeat' split) <;> simp
@[simp] theorem bitHiStep_evOvf : (s.bitHiStep c).evOvf = s.evOvf := by
  unfold bitHiStep; (repeat' split) <;> simp
@[simp] theorem bitHiStep_bound : (s.bitHiStep c).bound = s.bound := by
  unfold bitHiStep; (repeat' split) <;> simp
@[simp] theorem bitHiStep_pin : (s.bitHiStep c).pin = s.pin := by
  unfold bitHiStep; (repeat' split) <;> simp
@[simp] theorem bitHiStep_rej : (s.bitHiStep c).rej = s.rej := by
  unfold bitHiStep; (repeat' split) <;> simp
@[simp] theorem bitHiStep_rcause : (s.bitHiStep c).rcause = s.rcause := by
  unfold bitHiStep; (repeat' split) <;> simp
@[simp] theorem bitHiStep_diagRate : (s.bitHiStep c).diagRate = s.diagRate := by
  unfold bitHiStep; (repeat' split) <;> simp
@[simp] theorem bitHiStep_cmdLo : (s.bitHiStep c).cmdLo = s.cmdLo := by
  unfold bitHiStep; (repeat' split) <;> simp
@[simp] theorem bitHiStep_cmdHi : (s.bitHiStep c).cmdHi = s.cmdHi := by
  unfold bitHiStep; (repeat' split) <;> simp
@[simp] theorem bitHiStep_lineId : (s.bitHiStep c).lineId = s.lineId := by
  unfold bitHiStep; (repeat' split) <;> simp
@[simp] theorem bitHiStep_tick : (s.bitHiStep c).tick = s.tick := by
  unfold bitHiStep; (repeat' split) <;> simp
@[simp] theorem bitHiStep_lineIn : (s.bitHiStep c).lineIn = s.lineIn := by
  unfold bitHiStep; (repeat' split) <;> simp
@[simp] theorem bitHiStep_hostIn : (s.bitHiStep c).hostIn = s.hostIn := by
  unfold bitHiStep; (repeat' split) <;> simp
@[simp] theorem bitHiStep_hrdata : (s.bitHiStep c).hrdata = s.hrdata := by
  unfold bitHiStep; (repeat' split) <;> simp
@[simp] theorem bitHiStep_lrLastLow : (s.bitHiStep c).lrLastLow = s.lrLastLow := by
  unfold bitHiStep; (repeat' split) <;> simp
@[simp] theorem bitHiStep_lrto : (s.bitHiStep c).lrto = s.lrto := by
  unfold bitHiStep; (repeat' split) <;> simp
@[simp] theorem bitHiStep_padcut : (s.bitHiStep c).padcut = s.padcut := by
  unfold bitHiStep; (repeat' split) <;> simp

/-! ### decidePad -/

@[simp] theorem decidePad_fb (l : Level) : (s.decidePad c l).fb = s.fb := by
  unfold decidePad; (repeat' split) <;> simp
@[simp] theorem decidePad_nbytes (l : Level) : (s.decidePad c l).nbytes = s.nbytes := by
  unfold decidePad; (repeat' split) <;> simp
@[simp] theorem decidePad_mode (l : Level) : (s.decidePad c l).mode = s.mode := by
  unfold decidePad; (repeat' split) <;> simp
@[simp] theorem decidePad_mi (l : Level) : (s.decidePad c l).mi = s.mi := by
  unfold decidePad; (repeat' split) <;> simp
@[simp] theorem decidePad_timeout (l : Level) : (s.decidePad c l).timeout = s.timeout := by
  unfold decidePad; (repeat' split) <;> simp
@[simp] theorem decidePad_mp (l : Level) : (s.decidePad c l).mp = s.mp := by
  unfold decidePad; (repeat' split) <;> simp
@[simp] theorem decidePad_mc (l : Level) : (s.decidePad c l).mc = s.mc := by
  unfold decidePad; (repeat' split) <;> simp
@[simp] theorem decidePad_acc (l : Level) : (s.decidePad c l).acc = s.acc := by
  unfold decidePad; (repeat' split) <;> simp
@[simp] theorem decidePad_bitCnt (l : Level) : (s.decidePad c l).bitCnt = s.bitCnt := by
  unfold decidePad; (repeat' split) <;> simp
@[simp] theorem decidePad_gapNoted (l : Level) : (s.decidePad c l).gapNoted = s.gapNoted := by
  unfold decidePad; (repeat' split) <;> simp
@[simp] theorem decidePad_evbuf (l : Level) : (s.decidePad c l).evbuf = s.evbuf := by
  unfold decidePad; (repeat' split) <;> simp
@[simp] theorem decidePad_evRdy (l : Level) : (s.decidePad c l).evRdy = s.evRdy := by
  unfold decidePad; (repeat' split) <;> simp
@[simp] theorem decidePad_evOvf (l : Level) : (s.decidePad c l).evOvf = s.evOvf := by
  unfold decidePad; (repeat' split) <;> simp
@[simp] theorem decidePad_bound (l : Level) : (s.decidePad c l).bound = s.bound := by
  unfold decidePad; (repeat' split) <;> simp
@[simp] theorem decidePad_pin (l : Level) : (s.decidePad c l).pin = s.pin := by
  unfold decidePad; (repeat' split) <;> simp
@[simp] theorem decidePad_rej (l : Level) : (s.decidePad c l).rej = s.rej := by
  unfold decidePad; (repeat' split) <;> simp
@[simp] theorem decidePad_rcause (l : Level) : (s.decidePad c l).rcause = s.rcause := by
  unfold decidePad; (repeat' split) <;> simp
@[simp] theorem decidePad_diagRate (l : Level) : (s.decidePad c l).diagRate = s.diagRate := by
  unfold decidePad; (repeat' split) <;> simp
@[simp] theorem decidePad_cmdLo (l : Level) : (s.decidePad c l).cmdLo = s.cmdLo := by
  unfold decidePad; (repeat' split) <;> simp
@[simp] theorem decidePad_cmdHi (l : Level) : (s.decidePad c l).cmdHi = s.cmdHi := by
  unfold decidePad; (repeat' split) <;> simp
@[simp] theorem decidePad_lineId (l : Level) : (s.decidePad c l).lineId = s.lineId := by
  unfold decidePad; (repeat' split) <;> simp
@[simp] theorem decidePad_tick (l : Level) : (s.decidePad c l).tick = s.tick := by
  unfold decidePad; (repeat' split) <;> simp
@[simp] theorem decidePad_lineIn (l : Level) : (s.decidePad c l).lineIn = s.lineIn := by
  unfold decidePad; (repeat' split) <;> simp
@[simp] theorem decidePad_hostIn (l : Level) : (s.decidePad c l).hostIn = s.hostIn := by
  unfold decidePad; (repeat' split) <;> simp
@[simp] theorem decidePad_hrdata (l : Level) : (s.decidePad c l).hrdata = s.hrdata := by
  unfold decidePad; (repeat' split) <;> simp
@[simp] theorem decidePad_seg (l : Level) : (s.decidePad c l).seg = s.seg := by
  unfold decidePad; (repeat' split) <;> simp
@[simp] theorem decidePad_bitPos (l : Level) : (s.decidePad c l).bitPos = s.bitPos := by
  unfold decidePad; (repeat' split) <;> simp
@[simp] theorem decidePad_byteIdx (l : Level) : (s.decidePad c l).byteIdx = s.byteIdx := by
  unfold decidePad; (repeat' split) <;> simp
@[simp] theorem decidePad_el (l : Level) : (s.decidePad c l).el = s.el := by
  unfold decidePad; (repeat' split) <;> simp
@[simp] theorem decidePad_lrLastLow (l : Level) : (s.decidePad c l).lrLastLow = s.lrLastLow := by
  unfold decidePad; (repeat' split) <;> simp
@[simp] theorem decidePad_dir (l : Level) : (s.decidePad c l).dir = s.dir := by
  unfold decidePad; (repeat' split) <;> simp
@[simp] theorem decidePad_lineOut (l : Level) : (s.decidePad c l).lineOut = s.lineOut := by
  unfold decidePad; (repeat' split) <;> simp
@[simp] theorem decidePad_lrto (l : Level) : (s.decidePad c l).lrto = s.lrto := by
  unfold decidePad; (repeat' split) <;> simp

/-! ### padStep -/

@[simp] theorem padStep_fb (l : Level) : (s.padStep c l).fb = s.fb := by
  unfold padStep; (repeat' split) <;> simp
@[simp] theorem padStep_nbytes (l : Level) : (s.padStep c l).nbytes = s.nbytes := by
  unfold padStep; (repeat' split) <;> simp
@[simp] theorem padStep_mode (l : Level) : (s.padStep c l).mode = s.mode := by
  unfold padStep; (repeat' split) <;> simp
@[simp] theorem padStep_mi (l : Level) : (s.padStep c l).mi = s.mi := by
  unfold padStep; (repeat' split) <;> simp
@[simp] theorem padStep_timeout (l : Level) : (s.padStep c l).timeout = s.timeout := by
  unfold padStep; (repeat' split) <;> simp
@[simp] theorem padStep_mp (l : Level) : (s.padStep c l).mp = s.mp := by
  unfold padStep; (repeat' split) <;> simp
@[simp] theorem padStep_mc (l : Level) : (s.padStep c l).mc = s.mc := by
  unfold padStep; (repeat' split) <;> simp
@[simp] theorem padStep_acc (l : Level) : (s.padStep c l).acc = s.acc := by
  unfold padStep; (repeat' split) <;> simp
@[simp] theorem padStep_bitCnt (l : Level) : (s.padStep c l).bitCnt = s.bitCnt := by
  unfold padStep; (repeat' split) <;> simp
@[simp] theorem padStep_gapNoted (l : Level) : (s.padStep c l).gapNoted = s.gapNoted := by
  unfold padStep; (repeat' split) <;> simp
@[simp] theorem padStep_evbuf (l : Level) : (s.padStep c l).evbuf = s.evbuf := by
  unfold padStep; (repeat' split) <;> simp
@[simp] theorem padStep_evRdy (l : Level) : (s.padStep c l).evRdy = s.evRdy := by
  unfold padStep; (repeat' split) <;> simp
@[simp] theorem padStep_evOvf (l : Level) : (s.padStep c l).evOvf = s.evOvf := by
  unfold padStep; (repeat' split) <;> simp
@[simp] theorem padStep_bound (l : Level) : (s.padStep c l).bound = s.bound := by
  unfold padStep; (repeat' split) <;> simp
@[simp] theorem padStep_pin (l : Level) : (s.padStep c l).pin = s.pin := by
  unfold padStep; (repeat' split) <;> simp
@[simp] theorem padStep_rej (l : Level) : (s.padStep c l).rej = s.rej := by
  unfold padStep; (repeat' split) <;> simp
@[simp] theorem padStep_rcause (l : Level) : (s.padStep c l).rcause = s.rcause := by
  unfold padStep; (repeat' split) <;> simp
@[simp] theorem padStep_diagRate (l : Level) : (s.padStep c l).diagRate = s.diagRate := by
  unfold padStep; (repeat' split) <;> simp
@[simp] theorem padStep_cmdLo (l : Level) : (s.padStep c l).cmdLo = s.cmdLo := by
  unfold padStep; (repeat' split) <;> simp
@[simp] theorem padStep_cmdHi (l : Level) : (s.padStep c l).cmdHi = s.cmdHi := by
  unfold padStep; (repeat' split) <;> simp
@[simp] theorem padStep_lineId (l : Level) : (s.padStep c l).lineId = s.lineId := by
  unfold padStep; (repeat' split) <;> simp
@[simp] theorem padStep_tick (l : Level) : (s.padStep c l).tick = s.tick := by
  unfold padStep; (repeat' split) <;> simp
@[simp] theorem padStep_lineIn (l : Level) : (s.padStep c l).lineIn = s.lineIn := by
  unfold padStep; (repeat' split) <;> simp
@[simp] theorem padStep_hostIn (l : Level) : (s.padStep c l).hostIn = s.hostIn := by
  unfold padStep; (repeat' split) <;> simp
@[simp] theorem padStep_hrdata (l : Level) : (s.padStep c l).hrdata = s.hrdata := by
  unfold padStep; (repeat' split) <;> simp
@[simp] theorem padStep_seg (l : Level) : (s.padStep c l).seg = s.seg := by
  unfold padStep; (repeat' split) <;> simp
@[simp] theorem padStep_bitPos (l : Level) : (s.padStep c l).bitPos = s.bitPos := by
  unfold padStep; (repeat' split) <;> simp
@[simp] theorem padStep_byteIdx (l : Level) : (s.padStep c l).byteIdx = s.byteIdx := by
  unfold padStep; (repeat' split) <;> simp
@[simp] theorem padStep_lrLastLow (l : Level) : (s.padStep c l).lrLastLow = s.lrLastLow := by
  unfold padStep; (repeat' split) <;> simp
@[simp] theorem padStep_dir (l : Level) : (s.padStep c l).dir = s.dir := by
  unfold padStep; (repeat' split) <;> simp
@[simp] theorem padStep_lineOut (l : Level) : (s.padStep c l).lineOut = s.lineOut := by
  unfold padStep; (repeat' split) <;> simp
@[simp] theorem padStep_lrto (l : Level) : (s.padStep c l).lrto = s.lrto := by
  unfold padStep; (repeat' split) <;> simp

/-! ### The phase step -/

theorem phaseStep_idle (l : Level) (h : s.phase = .idle) : s.phaseStep c l = s := by
  simp [phaseStep, h]
theorem phaseStep_lr (l : Level) (h : s.phase = .lr) : s.phaseStep c l = s.lrStep c l := by
  simp [phaseStep, h]
theorem phaseStep_syncLo (l : Level) (h : s.phase = .syncLo) : s.phaseStep c l = s.syncLoStep c := by
  simp [phaseStep, h]
theorem phaseStep_syncHi (l : Level) (h : s.phase = .syncHi) : s.phaseStep c l = s.syncHiStep c := by
  simp [phaseStep, h]
theorem phaseStep_bitLo (l : Level) (h : s.phase = .bitLo) : s.phaseStep c l = s.bitLoStep c := by
  simp [phaseStep, h]
theorem phaseStep_bitHi (l : Level) (h : s.phase = .bitHi) : s.phaseStep c l = s.bitHiStep c := by
  simp [phaseStep, h]
theorem phaseStep_pad (l : Level) (h : s.phase = .pad) : s.phaseStep c l = s.padStep c l := by
  simp [phaseStep, h]
theorem phaseStep_mon (l : Level) (h : s.phase = .mon) : s.phaseStep c l = s.monStep c l := by
  simp [phaseStep, h]
@[simp] theorem phaseStep_fb (l : Level) : (s.phaseStep c l).fb = s.fb := by
  unfold phaseStep; split <;> simp
@[simp] theorem phaseStep_nbytes (l : Level) : (s.phaseStep c l).nbytes = s.nbytes := by
  unfold phaseStep; split <;> simp
@[simp] theorem phaseStep_mode (l : Level) : (s.phaseStep c l).mode = s.mode := by
  unfold phaseStep; split <;> simp
@[simp] theorem phaseStep_mi (l : Level) : (s.phaseStep c l).mi = s.mi := by
  unfold phaseStep; split <;> simp
@[simp] theorem phaseStep_timeout (l : Level) : (s.phaseStep c l).timeout = s.timeout := by
  unfold phaseStep; split <;> simp
@[simp] theorem phaseStep_bound (l : Level) : (s.phaseStep c l).bound = s.bound := by
  unfold phaseStep; split <;> simp
@[simp] theorem phaseStep_pin (l : Level) : (s.phaseStep c l).pin = s.pin := by
  unfold phaseStep; split <;> simp
@[simp] theorem phaseStep_rej (l : Level) : (s.phaseStep c l).rej = s.rej := by
  unfold phaseStep; split <;> simp
@[simp] theorem phaseStep_rcause (l : Level) : (s.phaseStep c l).rcause = s.rcause := by
  unfold phaseStep; split <;> simp
@[simp] theorem phaseStep_diagRate (l : Level) : (s.phaseStep c l).diagRate = s.diagRate := by
  unfold phaseStep; split <;> simp
@[simp] theorem phaseStep_cmdLo (l : Level) : (s.phaseStep c l).cmdLo = s.cmdLo := by
  unfold phaseStep; split <;> simp
@[simp] theorem phaseStep_cmdHi (l : Level) : (s.phaseStep c l).cmdHi = s.cmdHi := by
  unfold phaseStep; split <;> simp
@[simp] theorem phaseStep_lineId (l : Level) : (s.phaseStep c l).lineId = s.lineId := by
  unfold phaseStep; split <;> simp
@[simp] theorem phaseStep_tick (l : Level) : (s.phaseStep c l).tick = s.tick := by
  unfold phaseStep; split <;> simp
@[simp] theorem phaseStep_lineIn (l : Level) : (s.phaseStep c l).lineIn = s.lineIn := by
  unfold phaseStep; split <;> simp
@[simp] theorem phaseStep_hostIn (l : Level) : (s.phaseStep c l).hostIn = s.hostIn := by
  unfold phaseStep; split <;> simp
@[simp] theorem phaseStep_hrdata (l : Level) : (s.phaseStep c l).hrdata = s.hrdata := by
  unfold phaseStep; split <;> simp

/-- Only MON touches the decoder and the event buffer. -/
theorem phaseStep_receive_frame (l : Level) (h : s.phase ≠ .mon) :
    (s.phaseStep c l).mp = s.mp ∧ (s.phaseStep c l).mc = s.mc ∧ (s.phaseStep c l).acc = s.acc ∧
      (s.phaseStep c l).bitCnt = s.bitCnt ∧ (s.phaseStep c l).gapNoted = s.gapNoted ∧
      (s.phaseStep c l).evbuf = s.evbuf ∧ (s.phaseStep c l).evRdy = s.evRdy ∧
      (s.phaseStep c l).evOvf = s.evOvf := by
  unfold phaseStep
  split <;> first | exact absurd ‹_› h | simp

end Sys2Proof.Machine.State
end

