-- ==== Sys2Proof/Laws/Tick.lean ====
section
/-!
SUPPORT. What a tick can do, said once: the outcomes of `settle` and `popEvent`, the end of a tick for
each of its forms, and the step function with the configuration check discharged.
-/

namespace Sys2Proof.Machine

namespace State

variable (c : Config) (s : State)

/-- Everything `settle` can do (R100). -/
theorem settle_cases (k : Cause) (f : State → State) :
    (k = .none ∧ s.settle k f = f s.clearRejection) ∨ (k ≠ .none ∧ s.settle k f = s.reject k) := by
  by_cases h : k = .none
  · exact .inl ⟨h, if_pos h⟩
  · exact .inr ⟨h, if_neg h⟩

/-- Everything `popEvent` can do (R112). -/
theorem popEvent_cases (w : State) :
    (s.evRdy = true ∧ s.evbuf ≠ [] ∧ s.popEvent w = { w with evbuf := s.evbuf.tail }) ∨
      (¬(s.evRdy = true ∧ s.evbuf ≠ []) ∧ s.popEvent w = w) := by
  by_cases h : s.evRdy = true ∧ s.evbuf ≠ []
  · exact .inl ⟨h.1, h.2, if_pos h⟩
  · exact .inr ⟨h, if_neg h⟩

theorem silentTick_eq : s.silentTick c = (s.phaseStep c s.sample).endTick none := rfl

theorem readTick_eq (w : Word) : s.readTick c w = { s.silentTick c with hrdata := some w } := rfl

/-- A tick whose host effect changes nothing is the tick without an access. -/
theorem effectTick_ignore (v : Word) : s.effectTick c none (ignoreWrite v) = s.silentTick c := rfl

/-- In phase IDLE a tick without an access changes nothing but the model's inputs (R120). -/
theorem silentTick_idle (h : s.phase = .idle) : s.silentTick c = s.endTick none := by
  rw [silentTick_eq, phaseStep_idle c s _ h]

/-- The issue of a word is a rejection or an acceptance, after the phase step (R100). -/
theorem issueTick_cases (cw : CommandWord) (f : State → State) :
    (checkCommand c cw s = .none ∧
        s.issueTick c cw f =
          (f (((s.phaseStep c s.sample).storeCmdHi (cw.extractLsb' 32 32)).clearRejection)).endTick
            none) ∨
      (checkCommand c cw s ≠ .none ∧
        s.issueTick c cw f =
          (((s.phaseStep c s.sample).storeCmdHi (cw.extractLsb' 32 32)).reject
            (checkCommand c cw s)).endTick none) := by
  rcases settle_cases ((s.phaseStep c s.sample).storeCmdHi (cw.extractLsb' 32 32))
    (checkCommand c cw s) f with ⟨h, e⟩ | ⟨h, e⟩
  · exact .inl ⟨h, congrArg (endTick none) e⟩
  · exact .inr ⟨h, congrArg (endTick none) e⟩

end State

/-! ### CheckCommand -/

/-- Everything CheckCommand can answer (R201, R202). -/
theorem checkCommand_cases (c : Config) (cw : CommandWord) (s : State) :
    (s.phase ≠ .idle ∧ checkCommand c cw s = .busy) ∨
      (s.phase = .idle ∧ opReserved c cw = true ∧ checkCommand c cw s = .badOp) ∨
      (s.phase = .idle ∧ opReserved c cw = false ∧ reservedBitSet c cw = true ∧
        checkCommand c cw s = .rsvdBits) ∨
      (s.phase = .idle ∧ opReserved c cw = false ∧ reservedBitSet c cw = false ∧
        modeIllegal cw = true ∧ checkCommand c cw s = .badMode) ∨
      (s.phase = .idle ∧ opReserved c cw = false ∧ reservedBitSet c cw = false ∧
        modeIllegal cw = false ∧ (opField cw = 2#4 ∨ opField cw = 3#4) ∧ s.bound = false ∧
        checkCommand c cw s = .unbound) ∨
      (s.phase = .idle ∧ opReserved c cw = false ∧ reservedBitSet c cw = false ∧
        modeIllegal cw = false ∧ ¬((opField cw = 2#4 ∨ opField cw = 3#4) ∧ s.bound = false) ∧
        checkCommand c cw s = .none) := by
  unfold checkCommand
  by_cases h1 : s.phase = .idle
  · by_cases h2 : opReserved c cw = true
    · simp [h1, h2]
    · by_cases h3 : reservedBitSet c cw = true
      · simp [h1, h2, h3]
      · by_cases h4 : modeIllegal cw = true
        · simp [h1, h2, h3, h4]
        · by_cases h5 : (opField cw = 2#4 ∨ opField cw = 3#4) ∧ s.bound = false
          · simp [h1, h2, h3, h4, h5]
          · simp only [Bool.not_eq_true] at h2 h3 h4
            refine .inr (.inr (.inr (.inr (.inr ⟨h1, h2, h3, h4, h5, ?_⟩))))
            rw [if_neg (by simp [h1]), if_neg (by simp [h2]), if_neg (by simp [h3]),
              if_neg (by simp [h4]), if_neg h5]
  · simp [h1]

/-! ### The step -/

/-- The step with the configuration check discharged: the configuration in use is well formed. -/
theorem step_eq (s : State) :
    step s =
      match s.fetch with
      | .reset a => .next (s.resetTick a)
      | .silent => .next (s.silentTick Config.hw)
      | .run i => exec i s :=
  if_pos Config.hw_wf

theorem core_run_zero (s : State) : Sys2Proof.core.run 0 s = .next s := rfl

/-- One more tick of a run: the first step, then the rest. -/
theorem core_run_succ (k : Nat) (s t : State) (h : step s = .next t) :
    Sys2Proof.core.run (k + 1) s = Sys2Proof.core.run k t := by
  have e : Sys2Proof.core.step s = .next t := h
  simp only [Host.Core.run, e]

end Sys2Proof.Machine
end

