-- ==== Sys2Proof/Laws/Events.lean ====
section
/-!
SUPPORT. Events offered to the buffer: what `offered` leaves alone, that events may be offered one after
the other, and that `emit` in the configuration in use offers one event (R185, R186). What a tick of one
more instance is (R213).
-/

namespace Sys2Proof.Machine

namespace State

variable (s : State) (es : List Event)

@[simp] theorem offered_phase : (s.offered es).phase = s.phase := rfl
@[simp] theorem offered_mode : (s.offered es).mode = s.mode := rfl
@[simp] theorem offered_acc : (s.offered es).acc = s.acc := rfl
@[simp] theorem offered_bitCnt : (s.offered es).bitCnt = s.bitCnt := rfl
@[simp] theorem offered_gapNoted : (s.offered es).gapNoted = s.gapNoted := rfl

@[simp] theorem offered_nil : s.offered [] = s := by simp [offered]

/-- One event offered: appended where there is room, else dropped and reported. -/
theorem emit_eq_offered (e : Event) : s.emit Config.hw e = s.offered [e] := by
  rcases emit_cases Config.hw s e with ⟨h, he⟩ | ⟨h, he⟩ <;> rw [Config.hw_evCap] at h <;> rw [he, offered]
  · have room : 1 ≤ 4096 - s.evbuf.length := by omega
    simp [List.take_of_length_le, room, Nat.not_lt.mpr room]
  · simp [Nat.sub_eq_zero_of_le h]

/-- Offering events in two parts is offering them at once. -/
theorem offered_append (fs : List Event) : s.offered (es ++ fs) = (s.offered es).offered fs := by
  have buffer : es.take (4096 - s.evbuf.length) ++
      fs.take (4096 - (s.evbuf ++ es.take (4096 - s.evbuf.length)).length) =
      (es ++ fs).take (4096 - s.evbuf.length) := by
    rw [List.take_append, List.length_append, List.length_take]
    congr 2
    omega
  simp only [offered, ← buffer, List.append_assoc, State.mk.injEq, true_and, and_true]
  rw [Bool.or_assoc]
  congr 1
  change _ = (decide (4096 - s.evbuf.length < es.length) ||
    decide (4096 - (s.evbuf ++ es.take (4096 - s.evbuf.length)).length < fs.length))
  rw [Bool.eq_iff_iff, Bool.or_eq_true, decide_eq_true_iff, decide_eq_true_iff, decide_eq_true_iff]
  simp only [List.length_append, List.length_take]
  omega

end State

/-- The tick of one more instance: its own step, and the tick of the others. -/
theorem stepInstances_cons (i : Instance) (rest ts : List Instance) (t : State)
    (h : step i.block = .next t) (hs : stepInstances rest = .next ts) :
    stepInstances (i :: rest) = .next ({ i with block := t } :: ts) := by
  simp only [stepInstances, h, hs]

end Sys2Proof.Machine
end

