-- ==== Sys2Proof/Laws/PerInstr.lean ====
section
/-!
SUPPORT. Statements about every instruction, one lemma per constructor of `Instr`. OpcodeField: the
word that spells an instruction carries the fixed field of its row in spec/opcode_table.json: OP in
cw[3:0] for a command word (R71), the register index in haddr[4:2] and the direction for an access
(R51).
-/

namespace Sys2Proof.Laws

/-- OP of a command word's row (R71). -/
def OpcodeField.op : Instr → BitVec 4
  | .init _ => 1
  | .send _ _ _ _ _ _ => 2
  | .monitor _ _ _ _ => 3
  | _ => 0

/-- The register and the direction (`true` for a write) of an access row (R38, R51); none for a command
word's row. -/
def OpcodeField.target : Instr → Option (Reg × Bool)
  | .nop => none
  | .init _ => none
  | .send _ _ _ _ _ _ => none
  | .monitor _ _ _ _ => none
  | .wrCmdLo _ => some (.cmdLo, true)
  | .wrCmdHi _ => some (.cmdHi, true)
  | .wrStatus _ => some (.status, true)
  | .wrPin _ => some (.pin, true)
  | .wrDiagRate _ => some (.diagRate, true)
  | .wrEvcount _ => some (.evcount, true)
  | .wrEvdata _ => some (.evdata, true)
  | .wrMonState _ => some (.monState, true)
  | .rdCmdLo => some (.cmdLo, false)
  | .rdCmdHi => some (.cmdHi, false)
  | .rdStatus => some (.status, false)
  | .rdPin => some (.pin, false)
  | .rdDiagRate => some (.diagRate, false)
  | .rdEvcount => some (.evcount, false)
  | .rdEvdata => some (.evdata, false)
  | .rdMonState => some (.monState, false)

/-- The fixed field of the row stands in the word that spells the instruction. -/
def OpcodeField.Statement (i : Instr) : Prop :=
  match encode i, OpcodeField.target i with
  | .command cw, none => opField cw = OpcodeField.op i
  | .access a, some (r, w) => a.haddr.extractLsb' 2 3 = r.index ∧ a.hwrite = w
  | _, _ => False

theorem OpcodeField.nop : OpcodeField.Statement .nop := by
  show opField encodeNop = 0#4
  decide

theorem OpcodeField.init (pin : Byte) :
    OpcodeField.Statement (.init pin) :=
  opField_encodeInit pin

theorem OpcodeField.send (p2 p3 : Bool) (dev c1 c2 c3 : Byte) :
    OpcodeField.Statement (.send p2 p3 dev c1 c2 c3) :=
  opField_encodeSend p2 p3 dev c1 c2 c3

theorem OpcodeField.monitor (mode : BitVec 2) (mi : Bool) (timeout : Word) (rate : BitVec 24) :
    OpcodeField.Statement (.monitor mode mi timeout rate) :=
  opField_encodeMonitor mode mi timeout rate

theorem OpcodeField.wrCmdLo (v : Word) : OpcodeField.Statement (.wrCmdLo v) :=
  ⟨Reg.offset_index .cmdLo, rfl⟩

theorem OpcodeField.wrCmdHi (v : Word) : OpcodeField.Statement (.wrCmdHi v) :=
  ⟨Reg.offset_index .cmdHi, rfl⟩

theorem OpcodeField.wrStatus (v : Word) : OpcodeField.Statement (.wrStatus v) :=
  ⟨Reg.offset_index .status, rfl⟩

theorem OpcodeField.wrPin (v : Word) : OpcodeField.Statement (.wrPin v) :=
  ⟨Reg.offset_index .pin, rfl⟩

theorem OpcodeField.wrDiagRate (v : Word) : OpcodeField.Statement (.wrDiagRate v) :=
  ⟨Reg.offset_index .diagRate, rfl⟩

theorem OpcodeField.wrEvcount (v : Word) : OpcodeField.Statement (.wrEvcount v) :=
  ⟨Reg.offset_index .evcount, rfl⟩

theorem OpcodeField.wrEvdata (v : Word) : OpcodeField.Statement (.wrEvdata v) :=
  ⟨Reg.offset_index .evdata, rfl⟩

theorem OpcodeField.wrMonState (v : Word) : OpcodeField.Statement (.wrMonState v) :=
  ⟨Reg.offset_index .monState, rfl⟩

theorem OpcodeField.rdCmdLo : OpcodeField.Statement .rdCmdLo :=
  ⟨Reg.offset_index .cmdLo, rfl⟩

theorem OpcodeField.rdCmdHi : OpcodeField.Statement .rdCmdHi :=
  ⟨Reg.offset_index .cmdHi, rfl⟩

theorem OpcodeField.rdStatus : OpcodeField.Statement .rdStatus :=
  ⟨Reg.offset_index .status, rfl⟩

theorem OpcodeField.rdPin : OpcodeField.Statement .rdPin :=
  ⟨Reg.offset_index .pin, rfl⟩

theorem OpcodeField.rdDiagRate : OpcodeField.Statement .rdDiagRate :=
  ⟨Reg.offset_index .diagRate, rfl⟩

theorem OpcodeField.rdEvcount : OpcodeField.Statement .rdEvcount :=
  ⟨Reg.offset_index .evcount, rfl⟩

theorem OpcodeField.rdEvdata : OpcodeField.Statement .rdEvdata :=
  ⟨Reg.offset_index .evdata, rfl⟩

theorem OpcodeField.rdMonState : OpcodeField.Statement .rdMonState :=
  ⟨Reg.offset_index .monState, rfl⟩

end Sys2Proof.Laws
end

