-- ==== Sys2Proof/Tests/Slice0.lean ====
section
/-!
SUPPORT. Tests: the well-formedness smoke, decoding of words written out from the spec, single ticks
whose results spec/95_test_vectors.md states, and for every statement with hypotheses a state and
operands that meet them. Expected values are the spec's; each test names the vector or rule.
-/

namespace Sys2Proof.Tests

open Sys2Proof.Machine

/-! ### States the tests use -/

/-- After `INIT 5` (95 X6), with an idle line for four ticks. -/
def ready : State :=
  { State.reset with bound := true, pin := 5, lineIn := [true, true, true, true] }

/-- After `INIT 5; SEND 0xC0, 0x2E` (V-ENC, S(4)); the host reads STATUS in the next tick. -/
def checking : State :=
  { ready with
    phase := .lr, nbytes := 2, fb := ⟨0xC0, 0x2E, 0, 0⟩, hostIn := [⟨false, some (readAccess .status)⟩] }

/-- At the frame anchor of a frame of `n` bytes (V-ENC, S(3004)). -/
def anchored (n : BitVec 3) : State :=
  { checking with phase := .syncLo, nbytes := n, dir := true, lineOut := false }

/-- At the first tick of a bit's mark; bit 7 of 0xC0 is 1, bit 5 is 0. -/
def marking (bit : BitVec 3) : State :=
  { anchored 2 with phase := .bitLo, bitPos := bit, el := 3000 }

/-- In the padding, at the tick before a poll. -/
def padding (el : Nat) (line : Level) : State :=
  { ready with phase := .pad, nbytes := 2, el := el, poll := 24, lineIn := [line] }

/-- After `INIT 5; MONITOR mode, mi, 40000`. -/
def capturing (mode : BitVec 2) (mi : Bool) : State :=
  { ready with
    phase := .mon, mode := mode, mi := mi, timeout := 40000
    hostIn := [⟨false, some (readAccess .evdata)⟩] }

/-- Waiting for a pulse, with the given samples to come. -/
def waiting (mode : BitVec 2) (mi : Bool) (ls : List Level) : State :=
  { capturing mode mi with mp := .waitStart, mc := 1, lineIn := ls }

/-- After the capture of program P2. -/
def captured : State :=
  { ready with
    mode := 2, evRdy := true, evbuf := [.frame, .byte 0xC0, .byte 0x2E, .lineBreak], gapNoted := true }

/-- The state after an instruction, where there is one. -/
def after (i : Instr) (s : State) : State :=
  match exec i s with
  | .next t => t
  | _ => s

/-- STATUS on an idle line after the word {hi, lo} has been issued. -/
def statusAfter (hi lo : Word) (s : State) : Word :=
  (after (.wrCmdHi hi) { s with cmdLo := lo }).statusWord true

theorem lineReads_waiting (mode : BitVec 2) (mi : Bool) (ls : List Level) :
    LineReads ls (waiting mode mi ls) := List.take_length

/-! ### Well-formedness smoke -/

theorem test_wf_pin_width :
    Instr.wf { Config.hw with pinw := 3 } (.init 8) = false ∧
      Instr.wf { Config.hw with pinw := 3 } (.init 7) = true := by decide
theorem test_wf_monitor_mode :
    Instr.wf Config.hw (.monitor 3 false 0 0) = false ∧
      Instr.wf Config.hw (.monitor 2 false 0 0) = true := by decide
theorem test_wf_monitor_absent :
    Instr.wf { Config.hw with hasMonitor := false } (.monitor 0 false 0 0) = false := by decide
theorem test_wf_config_zero_duration :
    Config.wf { Config.hw with tSync := 0 } = false ∧ Config.wf { Config.hw with tOne := 0 } = false ∧
      Config.wf { Config.hw with tZero := 0 } = false ∧
      Config.wf { Config.hw with tDelim := 0 } = false ∧
      Config.wf { Config.hw with tLrIdle := 0 } = false ∧
      Config.wf { Config.hw with tFrame := 0 } = false ∧
      Config.wf { Config.hw with tPoll := 0 } = false ∧
      Config.wf { Config.hw with tLrTimeout := 0 } = false ∧
      Config.wf { Config.hw with tickUs := 0 } = false := by decide
theorem test_wf_config_cap :
    Config.wf { Config.hw with tMeasCap := 1 } = false ∧
      Config.wf { Config.hw with tMeasCap := 65537 } = false ∧
      Config.wf { Config.hw with tMeasCap := 2880 } = false := by decide
theorem test_wf_config_bands :
    Config.wf { Config.hw with tOne := 2000 } = false ∧
      Config.wf { Config.hw with tZero := 1000 } = false ∧
      Config.wf { Config.hw with tZero := 2400, tOne := 1000 } = false ∧
      Config.wf { Config.hw with tolNum := 0 } = false ∧
      Config.wf { Config.hw with tolDen := 0 } = false := by decide
theorem test_wf_config_widths :
    Config.wf { Config.hw with tw := 31 } = false ∧ Config.wf { Config.hw with pinw := 0 } = false ∧
      Config.wf { Config.hw with pinw := 9 } = false ∧
      Config.wf { Config.hw with byteW := 7 } = false ∧
      Config.wf { Config.hw with maxBytes := 3 } = false := by decide
theorem test_wf_config_timers :
    Config.wf { Config.hw with tLrTimeout := 4294967295 } = false ∧
      Config.wf { Config.hw with tFrame := 4294967295 } = false ∧
      Config.wf { Config.hw with monTimeoutDefault := 4294967295 } = false ∧
      Config.wf Config.hw = true := by decide

/-! ### Decoding of words written out from the spec -/

-- R72, R92.
theorem test_decode_nop : decode Config.hw (.command 0x0000000000000000) = .ok .nop := by decide
-- R73, R92: PIN in bits 15:8.
theorem test_decode_init : decode Config.hw (.command 0x0000000000000501) = .ok (.init 5) := by
  decide
-- R74, R92: P2 in bit 4, P3 in bit 5, DEV, C1, C2, C3 from bit 16 on.
theorem test_decode_send :
    decode Config.hw (.command 0x0000FFFF2EC00032) = .ok (.send true true 0xC0 0x2E 0xFF 0xFF) ∧
      decode Config.hw (.command 0x000099002E100022) =
        .ok (.send false true 0x10 0x2E 0x00 0x99) := by decide
-- R75, R92: MODE in bits 5:4, MI in bit 6, TIMEOUT in 39:8, RATE in 63:40.
theorem test_decode_monitor :
    decode Config.hw (.command 0x01C20000009C4053) = .ok (.monitor 1 true 40000 115200) := by decide
-- R78, R76, R79 and V-CMD: the words that spell no command, the first reason of R202's order.
theorem test_decode_refused :
    decode Config.hw (.command 0x4) = .error .badOp ∧
      decode Config.hw (.command 0x84) = .error .badOp ∧
      decode Config.hw (.command 0x10) = .error .rsvdBits ∧
      decode Config.hw (.command 0x511) = .error .rsvdBits ∧
      decode Config.hw (.command 0x2EC00042) = .error .rsvdBits ∧
      decode Config.hw (.command 0x000100002EC00002) = .error .rsvdBits ∧
      decode Config.hw (.command 0x3E8B3) = .error .rsvdBits ∧
      decode Config.hw (.command 0x3E833) = .error .badMode := by decide
-- R71: OP 3 is reserved without the monitor; R73: PIN bits from PINW on are reserved.
theorem test_decode_variants :
    decode { Config.hw with hasMonitor := false } (.command 0x3) = .error .badOp ∧
      decode { Config.hw with pinw := 3 } (.command 0x801) = .error .rsvdBits ∧
      decode { Config.hw with pinw := 3 } (.command 0x701) = .ok (.init 7) := by decide
-- R38, R51, R52: the offsets 0x00 to 0x1C; haddr[1:0] is ignored.
theorem test_decode_wrCmdLo : decodeAccess ⟨0b00000, true, 7⟩ = .wrCmdLo 7 := by decide
theorem test_decode_wrCmdHi : decodeAccess ⟨0b00111, true, 7⟩ = .wrCmdHi 7 := by decide
theorem test_decode_wrStatus : decodeAccess ⟨0b01000, true, 7⟩ = .wrStatus 7 := by decide
theorem test_decode_wrPin : decodeAccess ⟨0b01101, true, 7⟩ = .wrPin 7 := by decide
theorem test_decode_wrDiagRate : decodeAccess ⟨0b10000, true, 7⟩ = .wrDiagRate 7 := by decide
theorem test_decode_wrEvcount : decodeAccess ⟨0b10100, true, 7⟩ = .wrEvcount 7 := by decide
theorem test_decode_wrEvdata : decodeAccess ⟨0b11010, true, 7⟩ = .wrEvdata 7 := by decide
theorem test_decode_wrMonState : decodeAccess ⟨0b11100, true, 7⟩ = .wrMonState 7 := by decide
theorem test_decode_rdCmdLo : decodeAccess ⟨0b00001, false, 7⟩ = .rdCmdLo := by decide
theorem test_decode_rdCmdHi : decodeAccess ⟨0b00100, false, 7⟩ = .rdCmdHi := by decide
theorem test_decode_rdStatus : decodeAccess ⟨0b01000, false, 7⟩ = .rdStatus := by decide
theorem test_decode_rdPin : decodeAccess ⟨0b01100, false, 7⟩ = .rdPin := by decide
theorem test_decode_rdDiagRate : decodeAccess ⟨0b10011, false, 7⟩ = .rdDiagRate := by decide
theorem test_decode_rdEvcount : decodeAccess ⟨0b10100, false, 7⟩ = .rdEvcount := by decide
theorem test_decode_rdEvdata : decodeAccess ⟨0b11000, false, 7⟩ = .rdEvdata := by decide
theorem test_decode_rdMonState : decodeAccess ⟨0b11111, false, 7⟩ = .rdMonState := by decide
-- R53, R55: the eight bytes of the INIT 5 word, CMD_LO first, each register little-endian.
theorem test_decode_bytes :
    decodeBytes Config.hw [0x01, 0x05, 0, 0, 0, 0, 0, 0, 0xAA] = .ok (.init 5, [0xAA]) ∧
      decodeBytes Config.hw [0x01, 0x05, 0, 0, 0, 0, 0] = .error .truncated := by decide
-- The rows' match words of spec/opcode_table.json.
theorem test_table_words :
    decodeTableWord 64 0 = some .nop ∧ decodeTableWord 16 0x0501 = some (.init 5) ∧
      decodeTableWord 48 0x2EC00002 = some (.send false false 0xC0 0x2E 0 0) ∧
      decodeTableWord 8 0x03 = some (.monitor 0 false 0 0) ∧
      decodeTableWord 8 0x1C = some .rdMonState ∧ decodeTableWord 8 0x3C = some (.wrMonState 0) := by
  decide

/-! ### Single ticks -/

-- P5 steps 1 to 6 and 11 to 15: STATUS after one issue on an idle block.
theorem test_issue_idle :
    statusAfter 0 0x2EC00002 State.reset = 0x00010B04 ∧ statusAfter 0 0x501 State.reset = 0x0001000C ∧
      statusAfter 0 0x0003E833 ready = 0x0001090C ∧ statusAfter 0 0x0003E8B3 ready = 0x0001070C ∧
      statusAfter 0 0x4 ready = 0x0001050C ∧ statusAfter 0 0x84 ready = 0x0001050C ∧
      statusAfter 0 0x2EC00002 ready = 0x0001001D ∧ statusAfter 0 0 ready = 0x0001000C ∧
      statusAfter 0x00010000 0x2EC00002 ready = 0x0001070C ∧
      statusAfter 0xAB 0x2EC00002 ready = 0x0001001D := by decide
-- P5 steps 8 and 9: BUSY while the SEND runs.
theorem test_issue_busy :
    statusAfter 0 0 checking = 0x0001031D ∧ statusAfter 0 0x701 checking = 0x0001031D := by decide
-- P5 step 11.
theorem test_nop_clears_report :
    (after .nop { ready with rej := true, rcause := .busy }).statusWord true = 0x0001000C := by decide
-- 95 X6.
theorem test_init_binds :
    (after (.init 5) State.reset).statusWord true = 0x0001000C ∧
      (after (.init 5) State.reset).pin = 5 := by decide
-- V-ENC: SEND 0x10, 0x2E, -, 0x99.
theorem test_send_latches :
    (after (.send false true 0x10 0x2E 0 0x99) ready).fb = ⟨0x10, 0x2E, 0x99, 0⟩ ∧
      (after (.send false true 0x10 0x2E 0 0x99) ready).nbytes = 3 := by decide
-- V-MEAS: MON_STATE at the start of MONITOR 2, 0, 40000; V-REG: DIAG_RATE.
theorem test_monitor_starts :
    (after (.monitor 2 false 40000 115200) ready).monStateWord = 0x00008000 ∧
      (after (.monitor 2 false 40000 115200) ready).diagRateWord = 0x0001C200 := by decide
-- V-MEAS: S(5), the line high where low is measured.
theorem test_monitor_first_tick :
    (after (.wrCmdLo 0) (capturing 2 false)).monStateWord = 0x0002A000 := by decide
-- V-MEAS, timeout 0.
theorem test_monitor_timeout_zero :
    (after (.wrPin 0) { capturing 2 false with timeout := 0 }).statusWord true = 0x0001400C := by
  decide
-- V-REG: the last row.
theorem test_wrCmdLo_stores : (after (.wrCmdLo 0x12345678) ready).cmdLo = 0x12345678 := by decide
-- R114: V-EVT, a write to EVDATA pops nothing; the other ignored writes.
theorem test_ignored_writes :
    (after (.wrEvdata 7) captured).evcountWord = 4 ∧ (after (.wrEvcount 7) captured).evcountWord = 4 ∧
      (after (.wrStatus 7) ready).statusWord true = 0x0001000C ∧
      (after (.wrPin 7) ready).pinWord = 5 ∧ (after (.wrDiagRate 7) ready).diagRateWord = 0 ∧
      (after (.wrMonState 7) captured).monStateWord = 0x00008800 := by decide
-- V-REG and P2: what the reads return.
theorem test_reads :
    (after .rdCmdLo { ready with cmdLo := 0x2EC00002 }).hrdata = some 0x2EC00002 ∧
      (after .rdCmdHi { ready with cmdHi := 0xAB }).hrdata = some 0xAB ∧
      (after .rdPin ready).hrdata = some 5 ∧
      (after .rdDiagRate { ready with diagRate := 115200 }).hrdata = some 0x0001C200 ∧
      (after .rdEvcount captured).hrdata = some 4 ∧
      (after .rdMonState captured).hrdata = some 0x00008800 := by decide
-- V-REG: STATUS after reset, line high and line low; V-ENC: S(3004).
theorem test_rdStatus :
    (after .rdStatus { State.reset with lineIn := [true] }).hrdata = some 0x00010004 ∧
      (after .rdStatus { State.reset with lineIn := [false] }).hrdata = some 0x00000004 ∧
      (after .rdStatus (anchored 2)).hrdata = some 0x0001002B := by decide
-- P2: the drain; V-EVT: an empty buffer, and a capture in progress.
theorem test_rdEvdata :
    readEvents 5 captured = [0x90000000, 0xB00000C0, 0xB000002E, 0xD0000000, 0] ∧
      (after .rdEvdata { capturing 2 false with evbuf := [.frame] }).hrdata = some 0 := by decide
-- V-RST: a reset in a mark, with a STATUS read.
theorem test_reset_mid_frame :
    (match step { marking 7 with hostIn := [⟨true, some (readAccess .status)⟩] } with
      | .next t => decide (t.hrdata = some 0 ∧ t.lineOe = false ∧ t.lineO = true ∧ t.bound = false)
      | _ => false) = true := by decide
-- V-PAD: a low sample and T_FRAME together; S(33003) to S(33004).
theorem test_padding_tie :
    (after .rdPin (padding 29999 false)).padcut = true ∧
      (after .rdPin (padding 29999 true)).statusWord true = 0x0001000C := by decide
-- V-CLS: band edges.
theorem test_classify_edges :
    [499, 500, 720, 721, 999, 1000, 1440, 1441, 1999, 2000, 2880, 2881].map (classify Config.hw) =
      [.unknown, .zero, .zero, .unknown, .unknown, .one, .one, .unknown, .unknown, .sync, .sync,
        .unknown] := by decide
-- V-ENC: frame lengths.
theorem test_frame_lengths :
    frameLen Config.hw [0xC0, 0x2E] = 25800 ∧ frameLen Config.hw [0xFF, 0xF8] = 30000 ∧
      frameLen Config.hw [0xC0, 0x2E, 0x15] = 37200 := by decide
-- The host's placement of a word runs exactly it.
theorem test_fetch_word :
    (match step (State.reset.withFetchWord 16 0x0501) with
      | .next t => decide (t.pin = 5 ∧ t.bound = true)
      | _ => false) = true := by decide

/-! ### States that meet the hypotheses of the statements -/

theorem test_witness_ResetTickForcesReset :
    let s := { marking 7 with hostIn := [⟨true, some (readAccess .status)⟩] }
    s.hostIn = ⟨true, some (readAccess .status)⟩ :: [] ∧ (readAccess .status).hwrite = false := by
  decide
theorem test_witness_ResetRegisterReads : Reg.pin ≠ Reg.status := by decide
theorem test_witness_StepRunsDecodedAccess :
    checking.hostIn = ⟨false, some (readAccess .status)⟩ :: [] ∧
      { ready with hostIn := [⟨false, none⟩] }.hostIn = ⟨false, none⟩ :: [] ∧ ready.hostIn = [] := by
  decide
theorem test_witness_CmdHiWriteRunsCommandWord :
    decodeCommand Config.hw (commandWord 0 { ready with cmdLo := 0x501 }.cmdLo) = .ok (.init 5) := by
  decide
theorem test_witness_DecodeEncodeAgree :
    (Instr.init 255).wf Config.hw = true ∧ (Instr.init 1).wf { Config.hw with pinw := 1 } = true ∧
      (Instr.monitor 2 true 0xFFFFFFFF 0xFFFFFF).wf Config.hw = true := by decide
theorem test_witness_EncodeDecodeAgree :
    decodeCommand Config.hw 0x0000FFFF2EC00032 = .ok (.send true true 0xC0 0x2E 0xFF 0xFF) := by
  decide
theorem test_witness_CheckCommandNamesDecodeFailure : ready.phase = .idle := by decide
theorem test_witness_RejectedWriteChangesOnlyReport :
    checkCommand Config.hw (commandWord 0 checking.cmdLo) checking ≠ .none ∧
      checkCommand Config.hw (commandWord 0 { State.reset with cmdLo := 3 }.cmdLo)
        { State.reset with cmdLo := 3 } ≠ .none := by decide
theorem test_witness_ReportStaysUntilNextIssue :
    checking.NotReset ∧ (∀ v, checking.fetch ≠ .run (.wrCmdHi v)) ∧ ∃ t, step checking = .next t :=
  ⟨nofun, nofun, _, rfl⟩
theorem test_witness_CommandWordsRejected :
    checking.phase ≠ .idle ∧ State.reset.phase = .idle ∧ State.reset.bound = false ∧
      (3 : BitVec 2) = 3 ∧ (2 : BitVec 2) ≠ 3 := by decide
theorem test_witness_NopClearsReport : ready.phase = .idle := rfl
theorem test_witness_InitBindsPin : ready.phase = .idle := rfl
theorem test_witness_InitIdempotent : ready.phase = .idle := rfl
theorem test_witness_SendLatchesFrame : ready.phase = .idle ∧ ready.bound = true := by decide
theorem test_witness_MonitorStartsCapture :
    ready.phase = .idle ∧ ready.bound = true ∧ (0 : BitVec 2) ≠ 3 ∧ (2 : BitVec 2) ≠ 3 := by decide
theorem test_witness_CmdHiWriteAccepted :
    let s := { ready with cmdLo := 0x009C4053 }
    s.phase = .idle ∧ s.bound = true ∧
      decodeCommand Config.hw (commandWord 0x01C20000 s.cmdLo) = .ok (.monitor 1 true 40000 115200) := by
  decide
theorem test_witness_EvdataReadPopsHead :
    captured.evRdy = true ∧
      captured.evbuf = .frame :: [.byte 0xC0, .byte 0x2E, .lineBreak] ∧
      (capturing 2 false).evRdy = false ∧ { captured with evbuf := [] }.evbuf = [] := by decide
theorem test_witness_DrainReturnsEventsInOrder :
    captured.phase = .idle ∧ captured.evRdy = true ∧ captured.evbuf.length = 4 := by decide
theorem test_witness_IdleTickHolds : ready.phase = .idle ∧ ready.fetch = .silent := by decide
theorem test_witness_LineReadyTick :
    ∀ poll ∈ [0, 24], { checking with poll := poll, hostIn := [] }.phase = .lr ∧
      { checking with poll := poll, hostIn := [] }.fetch = .silent := by decide
theorem test_witness_PaddingTick :
    (padding 29999 true).phase = .pad ∧ (padding 29999 true).fetch = .silent := by decide
theorem test_witness_SyncMarkExact :
    let s := anchored 2
    s.phase = .syncLo ∧ s.seg = 0 ∧ s.dir = true ∧ s.lineOut = false ∧ s.el ≤ 4294967295 ∧
      NoReset 2400 s := by simp [anchored, checking, ready, NoReset, State.reset]
theorem test_witness_BitMarkExact :
    (∀ b : Bool, let s := marking (if b then 7 else 5)
      s.phase = .bitLo ∧ s.seg = 0 ∧ s.dir = true ∧ s.lineOut = false ∧
        (s.fb.get s.byteIdx).getLsbD s.bitPos.toNat = b) ∧
      ∀ b : Bool, NoReset (if b then 1200 else 600) (marking (if b then 7 else 5)) :=
  ⟨by decide, fun b => by cases b <;> simp [marking, anchored, checking, ready, NoReset]⟩
theorem test_witness_SendDrivesWaveform :
    ∀ n ∈ [2#3, 4#3], let s := anchored n
      (s.phase = .syncLo ∧ s.seg = 0 ∧ s.el = 0 ∧ s.dir = true ∧ s.lineOut = false ∧
        2 ≤ s.nbytes.toNat ∧ s.nbytes.toNat ≤ 4) ∧ NoReset (frameLen Config.hw s.frameBytes) s := by
  intro n h
  refine ⟨by revert n; decide, ?_⟩
  intro x hx
  have := List.mem_of_mem_take hx
  simp_all [anchored, checking]
theorem test_witness_FrameLengthFormula :
    2 ≤ [0#8, 0#8].length ∧ [255#8, 255#8, 255#8, 255#8].length ≤ 4 := by decide
theorem test_witness_LineReadyBounded :
    checking.phase = .lr ∧ checking.el = 0 ∧ checking.poll = 0 ∧ checking.lrLastLow = 0 ∧
      NoReset 500000 checking := by simp [checking, ready, NoReset, State.reset]
theorem test_witness_IdleLineReadyAfter3000 :
    let s := { checking with lineIn := List.replicate 3000 true }
    s.phase = .lr ∧ s.el = 0 ∧ s.poll = 0 ∧ s.lrLastLow = 0 ∧ NoReset 3000 s ∧
      LineReads (List.replicate 3000 true) s := by
  refine ⟨rfl, rfl, rfl, rfl, ?_, ?_⟩
  · simp [checking, NoReset]
  · simp only [LineReads, List.take_length]
theorem test_witness_DrivingIgnoresLine :
    (anchored 2).phase.driving = true ∧ { anchored 2 with hostIn := [] }.fetch ≠ .run .rdStatus := by
  decide
theorem test_witness_AccessNeverDisturbsOperation :
    checking.phase ≠ .idle ∧ checking.NotReset ∧ checking.evRdy = false ∧
      ∃ t, step checking = .next t := ⟨by decide, nofun, by decide, _, rfl⟩
theorem test_witness_AccessNeverDisturbsOperation_pop :
    let s := { anchored 2 with
      evRdy := true, evbuf := [.frame, .lineBreak], hostIn := [⟨false, some (readAccess .evdata)⟩] }
    s.phase ≠ .idle ∧ s.NotReset ∧ (s.fetch = .run .rdEvdata ∧ s.evRdy = true ∧ s.evbuf ≠ []) ∧
      s.phase ≠ .mon ∧ ∃ t, step s = .next t :=
  ⟨by decide, nofun, by decide, by decide, _, rfl⟩
theorem test_witness_OperandLatchesHeld :
    checking.phase ≠ .idle ∧ checking.NotReset ∧ ∃ t, step checking = .next t :=
  ⟨by decide, nofun, _, rfl⟩
theorem test_witness_WellFormedBandsDisjoint :
    Config.hw.wf = true ∧ inBand Config.hw 2880 Config.hw.tSync = true := by decide
theorem test_witness_MonitorLoopHead :
    ∀ timeout ∈ [0, 40000], let s := { capturing 2 false with timeout := timeout, hostIn := [] }
      s.phase = .mon ∧ s.mp = .top ∧ s.fetch = .silent := by decide
theorem test_witness_ZeroResultBreaksOncePerGap :
    (capturing 2 false).gapNoted = false ∧ (capturing 2 false).evbuf.length < 4096 ∧
      captured.gapNoted = true := by decide
/-- A capture whose buffer is full. -/
def full : State := { capturing 0 false with evbuf := List.replicate 4096 .lineBreak }

theorem test_witness_ZeroResultBreaksOncePerGap_full :
    full.gapNoted = false ∧ 4096 ≤ full.evbuf.length := by
  refine ⟨rfl, ?_⟩
  simp only [full, List.length_replicate, le_refl]
theorem test_witness_EmitKeepsEarlierEvents :
    (capturing 0 false).evbuf.length < 4096 ∧ 4096 ≤ full.evbuf.length :=
  ⟨by decide, test_witness_ZeroResultBreaksOncePerGap_full.2⟩
theorem test_witness_MeasuredDurationEffects :
    (capturing 0 false).mode = 0 ∧ (capturing 1 false).mode ≠ 0 ∧ 0 < 499 ∧
      (∀ d ∈ [2000, 2880], 2000 ≤ d ∧ d ≤ 2880) ∧
      (∀ d ∈ [499, 721, 999, 1441, 1999, 2881],
        ¬(500 ≤ d ∧ d ≤ 720) ∧ ¬(1000 ≤ d ∧ d ≤ 1440) ∧ ¬(2000 ≤ d ∧ d ≤ 2880)) ∧
      ∀ b : Bool, ∃ d, if b then 1000 ≤ d ∧ d ≤ 1440 else 500 ≤ d ∧ d ≤ 720 := by
  refine ⟨by decide, by decide, by decide, by decide, by decide, fun b => ?_⟩
  cases b
  · exact ⟨720, by decide⟩
  · exact ⟨1440, by decide⟩
-- R175, R178, R185: one place is left, the eighth bit is a 1: the BIT is kept and the BYTE dropped.
theorem test_handle_keeps_bit_drops_byte :
    let s := { capturing 1 false with
      evbuf := List.replicate 4095 .lineBreak, acc := 0xA4, bitCnt := 7, gapNoted := true }
    let t := s.handle Config.hw 1200
    t.evbuf.getLast? = some (.bit true) ∧ t.evbuf.length = 4096 ∧ t.evOvf = true ∧ t.acc = 0 ∧
      t.bitCnt = 0 ∧ t.gapNoted = false := by
  decide +kernel
theorem test_witness_WholePulseMeasured :
    ∀ d ∈ [1, 2999], let s := waiting 2 false (List.replicate d false ++ [true])
      s.phase = .mon ∧ s.mp = .waitStart ∧ s.evRdy = false ∧ 1 ≤ d ∧ d ≤ 2999 ∧
        NoReset (d + 1) s ∧ LineReads (List.replicate d s.mi ++ [!s.mi]) s := by
  intro d h
  have : 1 ≤ d ∧ d ≤ 2999 := by revert d; decide
  refine ⟨rfl, rfl, rfl, this.1, this.2, ?_, ?_⟩
  · simp [waiting, capturing, NoReset]
  · exact lineReads_waiting 2 false (List.replicate d false ++ [true])
theorem test_witness_ByteRoundTrip :
    ((capturing 2 false).mode = 1 ∨ (capturing 2 false).mode = 2) ∧ (capturing 2 false).acc = 0 ∧
      (capturing 2 false).bitCnt = 0 ∧ (capturing 2 false).evbuf.length + 9 ≤ 4096 := by decide
theorem test_witness_CaptureReconstructsFrame :
    ∀ mode ∈ [1#2, 2#2],
      let bytes : List Byte := [0xC0, 0x2E]
      let s := waiting mode false
        ((List.range (frameLen Config.hw bytes)).map (waveform Config.hw bytes))
      s.phase = .mon ∧ s.mp = .waitStart ∧ s.mi = false ∧ (s.mode = 1 ∨ s.mode = 2) ∧
        s.evRdy = false ∧ 1 ≤ bytes.length ∧ bytes.length ≤ 4 ∧
        s.evbuf.length + 1 + 9 * bytes.length ≤ 4096 ∧
        s.el + frameLen Config.hw bytes ≤ s.timeout ∧ s.timeout ≤ 4294967295 ∧
        NoReset (frameLen Config.hw bytes) s ∧
        LineReads ((List.range (frameLen Config.hw bytes)).map (waveform Config.hw bytes)) s := by
  intro mode h
  refine ⟨rfl, rfl, rfl, by revert mode; decide, rfl, by decide, by decide,
    by revert mode; decide, ?_, by revert mode; decide, ?_, ?_⟩
  · exact (by decide : 0 + frameLen Config.hw [0xC0, 0x2E] ≤ 40000)
  · intro x hx
    have := List.mem_of_mem_take hx
    simp_all only [waiting, capturing, List.mem_singleton]
  · exact lineReads_waiting _ _ _
theorem test_witness_CaptureEnds :
    ∀ timeout ∈ [0, 4294967295], let s := { capturing 2 false with timeout := timeout }
      s.phase = .mon ∧ s.mp = .top ∧ s.el = 0 ∧ s.timeout ≤ 4294967295 ∧
        NoReset (s.timeout + 9000) s := by
  intro timeout h
  refine ⟨rfl, rfl, rfl, by revert timeout; decide, fun x hx => ?_⟩
  have := List.mem_of_mem_take hx
  simp_all [capturing]
theorem test_witness_LineDriveKept :
    (anchored 2).LineInv ∧ ∃ t, step (anchored 2) = .next t := ⟨⟨rfl, rfl⟩, _, rfl⟩
theorem test_witness_StepKeepsInvariant :
    (capturing 2 false).Inv Config.hw ∧ ∃ t, step (capturing 2 false) = .next t := by
  refine ⟨⟨⟨rfl, rfl⟩, rfl, fun _ => rfl, ?_, ?_, trivial, ?_, ?_, ?_⟩, _, rfl⟩
  · exact ⟨by decide, fun _ => rfl, fun h => absurd rfl h⟩
  · exact ⟨by decide, by decide, by decide, by decide, nofun, nofun⟩
  · exact ⟨nofun, fun h => by cases h <;> contradiction⟩
  · exact ⟨fun h => absurd rfl h, fun _ => rfl, fun h => absurd rfl h⟩
  · exact ⟨by decide, by decide, fun d h => by cases h⟩

/-- A capture in step `m` of a measurement, after `mc` samples, with the given samples to come. -/
def measuring (m : MeasStep) (mc : Nat) (ls : List Level) : State :=
  { waiting 2 false ls with mp := m, mc := mc, hostIn := [] }

/-- The host makes no reset in any number of ticks of `measuring`. -/
theorem noReset_measuring (m : MeasStep) (mc : Nat) (ls : List Level) (n : Nat) :
    NoReset n (measuring m mc ls) := fun x hx => by cases List.mem_of_mem_take hx

theorem lineReads_measuring (m : MeasStep) (mc : Nat) (ls : List Level) :
    LineReads ls (measuring m mc ls) := List.take_length

theorem test_witness_MeasurementCapGivesZero_loopHead :
    ∀ b : Level, let s := measuring .top 0 (List.replicate 3000 b)
      s.phase = .mon ∧ s.evRdy = false ∧ s.mp = .top ∧ s.el < s.timeout ∧ NoReset 3000 s ∧
        LineReads (List.replicate 3000 b) s :=
  fun _ => ⟨rfl, rfl, rfl, (by decide : 0 < 40000), noReset_measuring _ _ _ _,
    lineReads_measuring _ _ _⟩
theorem test_witness_MeasurementCapGivesZero_cap :
    ∀ mc ∈ [1, 2999],
      (∀ m ∈ [MeasStep.waitOut, .time],
        let s := measuring m mc (List.replicate (3000 - mc) false)
        s.phase = .mon ∧ s.evRdy = false ∧ s.mp = m ∧ false = s.mi ∧ s.mc < 3000 ∧
          NoReset (3000 - s.mc) s ∧ LineReads (List.replicate (3000 - s.mc) false) s) ∧
      (let s := measuring .waitStart mc (List.replicate (3000 - mc) true);
        s.phase = .mon ∧ s.evRdy = false ∧ s.mp = .waitStart ∧ true = !s.mi ∧ s.mc < 3000 ∧
          NoReset (3000 - s.mc) s ∧ LineReads (List.replicate (3000 - s.mc) true) s) := by
  intro mc h
  have hmc : mc < 3000 := by revert mc; decide
  exact ⟨fun m _ => ⟨rfl, rfl, rfl, rfl, hmc, noReset_measuring _ _ _ _,
      lineReads_measuring m mc (List.replicate (3000 - mc) false)⟩,
    rfl, rfl, rfl, rfl, hmc, noReset_measuring _ _ _ _,
    lineReads_measuring .waitStart mc (List.replicate (3000 - mc) true)⟩
theorem test_witness_MeasurementCapGivesZero_longPulse :
    let s := measuring .waitStart 1 (List.replicate 3000 false)
    s.phase = .mon ∧ s.evRdy = false ∧ s.mp = .waitStart ∧ NoReset 3000 s ∧
      LineReads (List.replicate 3000 s.mi) s :=
  ⟨rfl, rfl, rfl, noReset_measuring _ _ _ _,
    lineReads_measuring .waitStart 1 (List.replicate 3000 false)⟩
theorem test_witness_MeasurementCapGivesZero_waitOut :
    ∀ d ∈ [0, 2998], let s := measuring .waitOut 1 (List.replicate d false ++ [true])
      s.phase = .mon ∧ s.evRdy = false ∧ s.mp = .waitOut ∧ s.mc + d < 3000 ∧ NoReset (d + 1) s ∧
        LineReads (List.replicate d s.mi ++ [!s.mi]) s := by
  intro d h
  have hd : 1 + d < 3000 := by revert d; decide
  exact ⟨rfl, rfl, rfl, hd, noReset_measuring _ _ _ _,
    lineReads_measuring .waitOut 1 (List.replicate d false ++ [true])⟩
theorem test_witness_InstancesIndependent :
    let p := [Instance.reset 1 0, Instance.reset 2 1]
    p[1]? = some (Instance.reset 2 1) ∧ platformAddress 1 32 = some 0 ∧
      platformAddress 2 95 = some 31 ∧ (1 : Nat) ≠ 2 ∧ platformAddress 2 63 = none := by decide
-- V-2I: the wire is low exactly while one of the two blocks drives a mark.
theorem test_wire_level :
    let p := [⟨1, anchored 2⟩, ⟨2, capturing 2 false⟩]
    wireLevel true 0 p = false ∧ wireLevel true 1 p = true ∧
      wireLevel true 0 [⟨2, capturing 2 false⟩] = true := by decide

/-- The state after a step, where there is one. -/
def stepped (s : State) : State :=
  match step s with
  | .next t => t
  | _ => s

/-- `s`, with a CMD_HI write of 0 in the coming tick, which issues the word `lo`. -/
def issuing (lo : Word) (s : State) : State :=
  { s with cmdLo := lo, hostIn := [⟨false, some (writeAccess .cmdHi 0)⟩] }

-- Each clause's premise: the flag changes in that tick.
theorem test_witness_FlagsWrittenOnlyAsListed :
    (stepped (issuing 4 ready)).rej = true ∧
      (let s := { checking with
        poll := 24, el := 499999, lrLastLow := 499000, lineIn := [false], hostIn := [] }
       s.lrto = false ∧ (stepped s).lrto = true) ∧
      (let s := issuing 0x2EC00002 { ready with lrto := true, padcut := true }
       (stepped s).lrto = false ∧ (stepped s).padcut = false) ∧
      (stepped (padding 29999 false)).padcut = true ∧
      (stepped { capturing 2 false with timeout := 0 }).evRdy = true ∧
      (let s := issuing 3 { captured with evOvf := true }
       (stepped s).evRdy = false ∧ (stepped s).evOvf = false) ∧
      (stepped { waiting 2 false [true] with mc := 2999 }).gapNoted = true ∧
      (stepped { waiting 2 false [true] with mp := .time, mc := 600, gapNoted := true }).gapNoted =
        false ∧
      (stepped (issuing 0x501 State.reset)).bound = true := by decide
theorem test_witness_FlagsWrittenOnlyAsListed_overflow :
    let s := { full with mp := .time, mc := 600 }
    s.evOvf = false ∧ (stepped s).evOvf = true := by
  refine ⟨rfl, ?_⟩
  decide +kernel

end Sys2Proof.Tests
end

section
/-!
PROOF. The tolerance bands of the classifier (spec/42_receive.md R170, R171) as intervals, and what a
well-formed configuration (spec/00_scope.md R8) says of them.
-/

namespace Sys2Proof

/-- The mark lengths that carry a tolerance band (R171). -/
def Config.marks (c : Config) : List Nat := [c.tSync, c.tOne, c.tZero]

/-! ### The parts of R8 that bear on the bands -/

theorem Config.tol_pos_of_wf {c : Config} (h : c.wf = true) : 0 < c.tolNum ∧ 0 < c.tolDen := by
  simp only [Config.wf, Bool.and_eq_true, decide_eq_true_eq] at h
  tauto

theorem Config.mark_bounds_of_wf {c : Config} {t : Nat} (h : c.wf = true) (ht : t ∈ c.marks) :
    0 < t ∧ c.bandHigh t < c.tMeasCap := by
  simp only [Config.wf, Bool.and_eq_true, decide_eq_true_eq] at h
  simp only [Config.marks, List.mem_cons, List.not_mem_nil, or_false] at ht
  obtain rfl | rfl | rfl := ht <;> tauto

theorem Config.marks_bandsDisjoint_of_wf {c : Config} (h : c.wf = true) :
    c.bandsDisjoint c.tSync c.tOne = true ∧ c.bandsDisjoint c.tSync c.tZero = true ∧
      c.bandsDisjoint c.tOne c.tZero = true := by
  simp only [Config.wf, Bool.and_eq_true, decide_eq_true_eq] at h
  tauto

/-! ### Bands as intervals -/

theorem Config.bandLow_le_iff {c : Config} (hnum : 0 < c.tolNum) (d t : Nat) :
    c.bandLow t ≤ d ↔ c.tolDen * t ≤ c.tolNum * d := by
  unfold Config.bandLow
  rw [Nat.div_le_iff_le_mul_add_pred hnum]
  omega

theorem Config.le_bandHigh_iff {c : Config} (hden : 0 < c.tolDen) (d t : Nat) :
    d ≤ c.bandHigh t ↔ c.tolDen * d ≤ c.tolNum * t := by
  rw [Config.bandHigh, Nat.le_div_iff_mul_le hden, Nat.mul_comm]

theorem Config.bandsDisjoint_iff (c : Config) (t u : Nat) :
    c.bandsDisjoint t u = true ↔
      min (c.bandHigh t) (c.bandHigh u) < max (c.bandLow t) (c.bandLow u) :=
  decide_eq_true_iff

namespace Machine

theorem inBand_iff {c : Config} {d t : Nat} :
    inBand c d t = true ↔ c.tolDen * t ≤ c.tolNum * d ∧ c.tolDen * d ≤ c.tolNum * t := by
  simp only [inBand, Bool.and_eq_true, decide_eq_true_eq]

/-- The integer test of R170 is membership in the interval that R8's check compares. -/
theorem inBand_iff_mem_band {c : Config} (h : c.wf = true) {d t : Nat} :
    inBand c d t = true ↔ c.bandLow t ≤ d ∧ d ≤ c.bandHigh t := by
  obtain ⟨hnum, hden⟩ := Config.tol_pos_of_wf h
  rw [inBand_iff, Config.bandLow_le_iff hnum, Config.le_bandHigh_iff hden]

theorem not_inBand_both_of_bandsDisjoint {c : Config} {d t u : Nat} (h : c.wf = true)
    (hdisj : c.bandsDisjoint t u = true) : ¬(inBand c d t = true ∧ inBand c d u = true) := by
  rintro ⟨ht, hu⟩
  obtain ⟨hlowt, hhight⟩ := (inBand_iff_mem_band h).1 ht
  obtain ⟨hlowu, hhighu⟩ := (inBand_iff_mem_band h).1 hu
  have hmax : max (c.bandLow t) (c.bandLow u) ≤ d := max_le hlowt hlowu
  have hmin : d ≤ min (c.bandHigh t) (c.bandHigh u) := le_min hhight hhighu
  exact absurd ((c.bandsDisjoint_iff t u).1 hdisj) (hmax.trans hmin).not_gt

theorem pos_of_inBand {c : Config} {d t : Nat} (hden : 0 < c.tolDen) (ht : 0 < t)
    (hd : inBand c d t = true) : 0 < d :=
  Nat.pos_of_mul_pos_left ((Nat.mul_pos hden ht).trans_le (inBand_iff.1 hd).1)

theorem bounds_of_inBand_mark {c : Config} {d t : Nat} (h : c.wf = true) (ht : t ∈ c.marks)
    (hd : inBand c d t = true) : 0 < d ∧ d < c.tMeasCap := by
  obtain ⟨-, hden⟩ := Config.tol_pos_of_wf h
  obtain ⟨hpos, hcap⟩ := Config.mark_bounds_of_wf h ht
  obtain ⟨-, hhigh⟩ := (inBand_iff_mem_band h).1 hd
  exact ⟨pos_of_inBand hden hpos hd, hhigh.trans_lt hcap⟩

/-- Settles O44: each pair of marks by the interval form of its bands, each mark by R8's bounds. -/
theorem wellFormedBandsDisjoint : Obligations.WellFormedBandsDisjoint := by
  intro c d h
  obtain ⟨hSyncOne, hSyncZero, hOneZero⟩ := Config.marks_bandsDisjoint_of_wf h
  refine ⟨not_inBand_both_of_bandsDisjoint h hSyncOne, not_inBand_both_of_bandsDisjoint h hSyncZero,
    not_inBand_both_of_bandsDisjoint h hOneZero, ?_⟩
  rintro (hSync | hOne | hZero)
  · exact bounds_of_inBand_mark h (by simp [Config.marks]) hSync
  · exact bounds_of_inBand_mark h (by simp [Config.marks]) hOne
  · exact bounds_of_inBand_mark h (by simp [Config.marks]) hZero

end Machine
end Sys2Proof
end

section
/-!
PROOF. What a tick can do, as two relations: every outcome of the phase step (spec/10_state.md R22
step 4) and every outcome of a tick without reset (R22 steps 4 and 5), each with the condition it needs.
The step runs into one of them, so a rule about every step is a split along their constructors.
-/

namespace Sys2Proof.Machine

namespace State

/-! ### The phase step -/

/-- The working copy after the count and the sample of a poll (R131). -/
abbrev polled (c : Config) (l : Level) (s : State) : State := (s.countPoll c).recordPoll l

/-- `s` with its elapsed count taken and its measurement at sample `k` of step `m` (R162 to R165). -/
abbrev measuring (c : Config) (m : MeasStep) (k : Nat) (s : State) : State :=
  { s.countElapsed c with mp := m, mc := k }

/-- The outcomes of one phase step on the sample `l`: one constructor per way through R131 to R140, and
the tick of MON. -/
inductive PhaseResult (c : Config) (l : Level) (s : State) : State → Prop
  | idle (hp : s.phase = .idle) : PhaseResult c l s s
  | lrCount (hp : s.phase = .lr) (hpoll : s.poll + 1 ≠ c.tPoll) : PhaseResult c l s (s.countPoll c)
  | lrReady (hp : s.phase = .lr) (hpoll : s.poll + 1 = c.tPoll)
      (hready : c.tLrIdle ≤ (s.polled c l).el - (s.polled c l).lrLastLow) :
      PhaseResult c l s (s.polled c l).startFrame
  | lrTimeout (hp : s.phase = .lr) (hpoll : s.poll + 1 = c.tPoll)
      (hready : (s.polled c l).el - (s.polled c l).lrLastLow < c.tLrIdle)
      (htimeout : c.tLrTimeout ≤ (s.polled c l).el) :
      PhaseResult c l s (s.polled c l).reportLineReadyTimeout.startFrame
  | lrWait (hp : s.phase = .lr) (hpoll : s.poll + 1 = c.tPoll)
      (hready : (s.polled c l).el - (s.polled c l).lrLastLow < c.tLrIdle)
      (htimeout : (s.polled c l).el < c.tLrTimeout) :
      PhaseResult c l s (s.polled c l)
  | syncLoCount (hp : s.phase = .syncLo) (hseg : s.seg + 1 ≠ c.tSync) :
      PhaseResult c l s (s.countSegment c)
  | syncLoEnd (hp : s.phase = .syncLo) (hseg : s.seg + 1 = c.tSync) :
      PhaseResult c l s ((s.countSegment c).endMark .syncHi)
  | syncHiCount (hp : s.phase = .syncHi) (hseg : s.seg + 1 ≠ c.tDelim) :
      PhaseResult c l s (s.countSegment c)
  | syncHiEnd (hp : s.phase = .syncHi) (hseg : s.seg + 1 = c.tDelim) :
      PhaseResult c l s ((s.countSegment c).startBit 0 7)
  | bitLoCount (hp : s.phase = .bitLo) (hseg : s.seg + 1 ≠ markLen c s.frameBit) :
      PhaseResult c l s (s.countSegment c)
  | bitLoEnd (hp : s.phase = .bitLo) (hseg : s.seg + 1 = markLen c s.frameBit) :
      PhaseResult c l s ((s.countSegment c).endMark .bitHi)
  | bitHiCount (hp : s.phase = .bitHi) (hseg : s.seg + 1 ≠ c.tDelim) :
      PhaseResult c l s (s.countSegment c)
  | nextBit (hp : s.phase = .bitHi) (hseg : s.seg + 1 = c.tDelim) (hbit : 0 < s.bitPos.toNat) :
      PhaseResult c l s ((s.countSegment c).startBit s.byteIdx (s.bitPos - 1))
  | nextByte (hp : s.phase = .bitHi) (hseg : s.seg + 1 = c.tDelim) (hbit : s.bitPos = 0)
      (hbyte : s.byteIdx.toNat + 1 < s.nbytes.toNat) :
      PhaseResult c l s ((s.countSegment c).startBit (s.byteIdx + 1) 7)
  | frameEnd (hp : s.phase = .bitHi) (hseg : s.seg + 1 = c.tDelim) (hbit : s.bitPos = 0)
      (hbyte : s.nbytes.toNat ≤ s.byteIdx.toNat + 1) :
      PhaseResult c l s ((s.countSegment c).endFrame c)
  | padCount (hp : s.phase = .pad) (hpoll : s.poll + 1 ≠ c.tPoll) :
      PhaseResult c l s (s.countPoll c)
  | padCut (hp : s.phase = .pad) (hpoll : s.poll + 1 = c.tPoll) (hline : l = false) :
      PhaseResult c l s { (s.countPoll c).reportPadCut with poll := 0, phase := .idle }
  | padEnd (hp : s.phase = .pad) (hpoll : s.poll + 1 = c.tPoll) (hline : l = true)
      (hel : c.tFrame ≤ (s.countPoll c).el) :
      PhaseResult c l s { s.countPoll c with poll := 0, phase := .idle }
  | padWait (hp : s.phase = .pad) (hpoll : s.poll + 1 = c.tPoll) (hline : l = true)
      (hel : (s.countPoll c).el < c.tFrame) :
      PhaseResult c l s { s.countPoll c with poll := 0 }
  | mon (hp : s.phase = .mon) : PhaseResult c l s (s.monStep c l)

/-- The outcomes of one tick of MON: one constructor per way through R162 to R167. -/
inductive MonResult (c : Config) (s : State) : State → Prop
  | flush (hmp : s.mp = .top) (htimeout : s.timeout ≤ s.el) :
      MonResult c s (s.countElapsed c).flush
  | count (m : MeasStep) (k : Nat) (hmp : m ≠ .top)
      (hfrom : (s.mp = .top ∧ m = .waitOut ∧ k = 0) ∨ (s.mp = m ∧ k = s.mc))
      (hcap : k + 1 ≠ c.tMeasCap) :
      MonResult c s (s.measuring c m (k + 1))
  | edge (m : MeasStep) (hmp : m ≠ .top) : MonResult c s (s.measuring c m 1)
  | result (m : MeasStep) (k d : Nat) (hd : d = 0 ∨ (s.mp = .time ∧ d = s.mc)) :
      MonResult c s ((s.measuring c m k).returnResult c d)

variable {c : Config} {l : Level} {s : State}

theorem lrStep_result (hp : s.phase = .lr) : s.PhaseResult c l (s.lrStep c l) := by
  rcases lrStep_cases c s l with ⟨hpoll, e⟩ | ⟨hpoll, e⟩
  · rcases decidePoll_cases c (s.polled c l) with ⟨h, e'⟩ | ⟨h, h', e'⟩ | ⟨h, h', e'⟩
    · exact e ▸ e' ▸ .lrReady hp hpoll h
    · exact e ▸ e' ▸ .lrTimeout hp hpoll h h'
    · exact e ▸ e' ▸ .lrWait hp hpoll h h'
  · exact e ▸ .lrCount hp hpoll

theorem syncLoStep_result (hp : s.phase = .syncLo) : s.PhaseResult c l (s.syncLoStep c) := by
  unfold syncLoStep
  split
  · exact .syncLoEnd hp ‹_›
  · exact .syncLoCount hp ‹_›

theorem syncHiStep_result (hp : s.phase = .syncHi) : s.PhaseResult c l (s.syncHiStep c) := by
  unfold syncHiStep
  split
  · exact .syncHiEnd hp ‹_›
  · exact .syncHiCount hp ‹_›

theorem bitLoStep_result (hp : s.phase = .bitLo) : s.PhaseResult c l (s.bitLoStep c) := by
  unfold bitLoStep
  split
  · exact .bitLoEnd hp ‹_›
  · exact .bitLoCount hp ‹_›

theorem bitHiStep_result (hp : s.phase = .bitHi) : s.PhaseResult c l (s.bitHiStep c) := by
  unfold bitHiStep
  split
  · rename_i hseg
    rcases nextSymbol_cases c (s.countSegment c) with ⟨hbit, e⟩ | ⟨hbit, hbyte, e⟩ | ⟨hbit, hbyte, e⟩
    · exact e ▸ .nextBit hp hseg hbit
    · exact e ▸ .nextByte hp hseg hbit hbyte
    · exact e ▸ .frameEnd hp hseg hbit hbyte
  · exact .bitHiCount hp ‹_›

theorem padStep_result (hp : s.phase = .pad) : s.PhaseResult c l (s.padStep c l) := by
  rcases padStep_cases c s l with ⟨hpoll, e⟩ | ⟨hpoll, e⟩
  · rw [e, decidePad]
    split
    · split
      · exact .padEnd hp hpoll ‹_› ‹_›
      · exact .padWait hp hpoll ‹_› (Nat.lt_of_not_le ‹_›)
    · exact .padCut hp hpoll (Bool.eq_false_iff.mpr ‹_›)
  · exact e ▸ .padCount hp hpoll

/-- A sample without the awaited edge is counted, or at the cap gives the result 0 (R163 to R165). -/
theorem countSample_result {m : MeasStep} {k : Nat} (hmp : m ≠ .top)
    (hfrom : (s.mp = .top ∧ m = .waitOut ∧ k = 0) ∨ (s.mp = m ∧ k = s.mc)) :
    s.MonResult c ((s.measuring c m k).countSample c) := by
  rcases countSample_cases c (s.measuring c m k) with ⟨-, e⟩ | ⟨hcap, e⟩
  · exact e ▸ .result m (k + 1) 0 (.inl rfl)
  · exact e ▸ .count m k hmp hfrom hcap

theorem waitOutStep_result {k : Nat}
    (hfrom : (s.mp = .top ∧ k = 0) ∨ (s.mp = .waitOut ∧ k = s.mc)) :
    s.MonResult c ((s.measuring c .waitOut k).waitOutStep c l) := by
  unfold waitOutStep
  split
  · exact countSample_result (by decide) (hfrom.imp_left fun h => ⟨h.1, rfl, h.2⟩)
  · exact .edge .waitStart (by decide)

/-- Within step `m` the count of the elapsed time is all that a sample's step starts from. -/
theorem countElapsed_eq_measuring {m : MeasStep} (h : s.mp = m) :
    s.countElapsed c = s.measuring c m s.mc := by
  subst h; rfl

variable (c l s) in
/-- Everything a tick of MON can do (R162). -/
theorem monStep_result : s.MonResult c (s.monStep c l) := by
  unfold monStep
  split <;> rename_i hmp
  · split
    · exact .flush hmp ‹_›
    · exact waitOutStep_result (.inl ⟨hmp, rfl⟩)
  · rw [countElapsed_eq_measuring hmp]
    exact waitOutStep_result (.inr ⟨hmp, rfl⟩)
  · rw [countElapsed_eq_measuring hmp]
    unfold waitStartStep
    split
    · exact .edge .time (by decide)
    · exact countSample_result (by decide) (.inr ⟨hmp, rfl⟩)
  · rw [countElapsed_eq_measuring hmp]
    unfold timeStep
    split
    · exact countSample_result (by decide) (.inr ⟨hmp, rfl⟩)
    · exact .result .time s.mc s.mc (.inr ⟨hmp, rfl⟩)

variable (c l s) in
/-- Everything the phase step can do (R22 step 4). -/
theorem phaseStep_result : s.PhaseResult c l (s.phaseStep c l) := by
  unfold phaseStep
  split <;> rename_i hp
  · exact .idle hp
  · exact lrStep_result hp
  · exact syncLoStep_result hp
  · exact syncHiStep_result hp
  · exact bitLoStep_result hp
  · exact bitHiStep_result hp
  · exact padStep_result hp
  · exact .mon hp

/-! ### Which phase follows -/

variable (c s) in
theorem endFrame_phase_cases : (s.endFrame c).phase = .idle ∨ (s.endFrame c).phase = .pad := by
  rw [endFrame_phase]
  split
  · exact .inl rfl
  · exact .inr rfl

theorem monStep_phase_cases (hp : s.phase = .mon) :
    (s.monStep c l).phase = .idle ∨ (s.monStep c l).phase = .mon := by
  rcases monStep_exit c s l with ⟨-, -, e⟩ | ⟨-, e, -⟩
  · exact .inl (e ▸ rfl)
  · exact .inr (e.trans hp)

/-- No phase step starts an operation (R120). -/
theorem busy_of_phaseStep_busy (h : (s.phaseStep c l).phase ≠ .idle) : s.phase ≠ .idle :=
  fun hp => h (by rw [phaseStep_idle c s l hp, hp])

/-- No phase step enters MON. -/
theorem PhaseResult.mon_of_mon {w : State} (hr : s.PhaseResult c l w) (h : w.phase = .mon) :
    s.phase = .mon := by
  cases hr with
  | idle | lrCount | lrWait | syncLoCount | syncHiCount | bitLoCount | bitHiCount | padCount
  | padWait => exact h
  | mon hp => exact hp
  | frameEnd => rcases endFrame_phase_cases c (s.countSegment c) with e | e <;> cases e.symm.trans h
  | lrReady | lrTimeout | syncLoEnd | syncHiEnd | bitLoEnd | nextBit | nextByte | padCut | padEnd =>
    cases h

/-! ### A tick without reset -/

/-- The working copy that a tick without reset can leave. `passed` is every tick that accepts no command:
the phase step, and of the host's part no more than the command registers, a rejection's report and the
pop of a readable event (R203, R105, R112). The others accept a command on an idle block (R100 to R104). -/
inductive TickResult (s : State) : State → Prop
  | passed (lo hi : Word) (rej : Bool) (cause : Cause) (buf : List Event)
      (hreport : (rej = s.rej ∧ cause = s.rcause) ∨
        (rej = true ∧ cause ≠ .none ∧ ∃ v, s.fetch = .run (.wrCmdHi v)))
      (hbuf : buf = (s.phaseStep Config.hw s.sample).evbuf ∨ (s.evRdy = true ∧ buf = s.evbuf.tail)) :
      TickResult s { s.phaseStep Config.hw s.sample with
        cmdLo := lo, cmdHi := hi, rej := rej, rcause := cause, evbuf := buf }
  | nop (v : Word) (hfetch : s.fetch = .run (.wrCmdHi v)) (hp : s.phase = .idle) :
      TickResult s (s.storeCmdHi v).clearRejection
  | init (v : Word) (pin : Byte) (hfetch : s.fetch = .run (.wrCmdHi v)) (hp : s.phase = .idle)
      (hop : opField (commandWord v s.cmdLo) = 1#4) :
      TickResult s ((s.storeCmdHi v).clearRejection.acceptInit pin)
  | send (v : Word) (p2 p3 : Bool) (dev c1 c2 c3 : Byte) (hfetch : s.fetch = .run (.wrCmdHi v))
      (hp : s.phase = .idle) (hb : s.bound = true) :
      TickResult s ((s.storeCmdHi v).clearRejection.acceptSend p2 p3 dev c1 c2 c3)
  | monitor (v : Word) (mode : BitVec 2) (mi : Bool) (timeout : Word) (rate : BitVec 24)
      (hfetch : s.fetch = .run (.wrCmdHi v)) (hp : s.phase = .idle) (hb : s.bound = true)
      (hmode : mode ≠ 3#2) :
      TickResult s ((s.storeCmdHi v).clearRejection.acceptMonitor mode mi timeout rate)

/-- A tick whose host part changes no field of the block is a tick that passes. -/
theorem silentTick_result : s.TickResult (s.phaseStep Config.hw s.sample) :=
  .passed _ _ _ _ _ (.inl ⟨phaseStep_rej .., phaseStep_rcause ..⟩) (.inl rfl)

theorem storeCmdLo_result (v : Word) :
    s.TickResult ((s.phaseStep Config.hw s.sample).storeCmdLo v) :=
  .passed _ _ _ _ _ (.inl ⟨phaseStep_rej .., phaseStep_rcause ..⟩) (.inl rfl)

theorem popEvent_result : s.TickResult (s.popEvent (s.phaseStep Config.hw s.sample)) := by
  rcases popEvent_cases s (s.phaseStep Config.hw s.sample) with ⟨hrdy, -, e⟩ | ⟨-, e⟩
  · rw [e]
    exact .passed _ _ _ _ _ (.inl ⟨phaseStep_rej .., phaseStep_rcause ..⟩) (.inr ⟨hrdy, rfl⟩)
  · rw [e]
    exact silentTick_result

end State

/-! ### The issue of a command word -/

/-- CheckCommand accepts on an idle block only, and only a word that passes each of its tests (R201). -/
theorem checkCommand_eq_none {c : Config} {cw : CommandWord} {s : State}
    (h : checkCommand c cw s = .none) :
    s.phase = .idle ∧ opReserved c cw = false ∧ reservedBitSet c cw = false ∧
      modeIllegal cw = false ∧ (opField cw = 2#4 ∨ opField cw = 3#4 → s.bound = true) := by
  rcases checkCommand_cases c cw s with ⟨-, e⟩ | ⟨-, -, e⟩ | ⟨-, -, -, e⟩ | ⟨-, -, -, -, e⟩ |
    ⟨-, -, -, -, -, -, e⟩ | ⟨hp, hop, hrsvd, hmode, hbound, -⟩
  case inr.inr.inr.inr.inr =>
    exact ⟨hp, hop, hrsvd, hmode, fun hcmd => by simpa [hcmd] using hbound⟩
  all_goals (rw [e] at h; cases h)

/-- An OP that names an operation is one of the four of R71. -/
theorem opField_cases {c : Config} {cw : CommandWord} (h : opReserved c cw = false) :
    opField cw = 0#4 ∨ opField cw = 1#4 ∨ opField cw = 2#4 ∨ opField cw = 3#4 := by
  have hlt : (opField cw).toNat < 4 := by
    simp only [opReserved, Bool.or_eq_false_iff, decide_eq_false_iff_not] at h
    omega
  generalize opField cw = op at hlt ⊢
  revert op
  decide

/-- Everything an accepted command word can do to the working copy `w` (R100 to R104). -/
theorem acceptCommand_cases {c : Config} {cw : CommandWord} {s : State} (w : State)
    (h : checkCommand c cw s = .none) :
    w.acceptCommand c cw = w ∨
      (opField cw = 1#4 ∧ ∃ pin, w.acceptCommand c cw = w.acceptInit pin) ∨
      (s.bound = true ∧
        ∃ p2 p3 dev c1 c2 c3, w.acceptCommand c cw = w.acceptSend p2 p3 dev c1 c2 c3) ∨
      (s.bound = true ∧ ∃ mode mi timeout rate, mode ≠ 3#2 ∧
        w.acceptCommand c cw = w.acceptMonitor mode mi timeout rate) := by
  obtain ⟨-, hop, hrsvd, hmode, hbound⟩ := checkCommand_eq_none h
  rcases opField_cases hop with h0 | h1 | h2 | h3
  · exact .inl (by simp [State.acceptCommand, decodeCommand, hop, hrsvd, hmode, h0, State.acceptNop])
  · exact .inr (.inl ⟨h1, pinField cw, by
      simp [State.acceptCommand, decodeCommand, hop, hrsvd, hmode, h1]⟩)
  · exact .inr (.inr (.inl ⟨hbound (.inl h2), p2Field cw, p3Field cw, devField cw, c1Field cw,
      c2Field cw, c3Field cw, by simp [State.acceptCommand, decodeCommand, hop, hrsvd, hmode, h2]⟩))
  · refine .inr (.inr (.inr ⟨hbound (.inr h3), modeField cw, miField cw, timeoutField cw,
      rateField cw, ?_, by simp [State.acceptCommand, decodeCommand, hop, hrsvd, hmode, h3]⟩))
    simpa [modeIllegal, h3] using hmode

/-- The tick of a CMD_HI write, accepted or rejected (R100). -/
theorem State.issueTick_result {s : State} {v : Word} (hfetch : s.fetch = .run (.wrCmdHi v)) :
    ∃ w, s.TickResult w ∧ s.issueTick Config.hw (commandWord v s.cmdLo)
      (State.acceptCommand Config.hw (commandWord v s.cmdLo)) = w.endTick none := by
  rcases s.issueTick_cases Config.hw (commandWord v s.cmdLo)
    (State.acceptCommand Config.hw (commandWord v s.cmdLo)) with ⟨hnone, e⟩ | ⟨hcause, e⟩
  · have hp : s.phase = .idle := (checkCommand_eq_none hnone).1
    rw [State.phaseStep_idle _ _ _ hp, commandWord_hi] at e
    refine ⟨_, ?_, e⟩
    rcases acceptCommand_cases ((s.storeCmdHi v).clearRejection) hnone with
      e' | ⟨hop, pin, e'⟩ | ⟨hb, p2, p3, dev, c1, c2, c3, e'⟩ |
        ⟨hb, mode, mi, timeout, rate, hmode, e'⟩ <;> rw [e']
    · exact .nop v hfetch hp
    · exact .init v pin hfetch hp hop
    · exact .send v p2 p3 dev c1 c2 c3 hfetch hp hb
    · exact .monitor v mode mi timeout rate hfetch hp hb hmode
  · exact ⟨_, .passed _ _ _ _ _ (.inr ⟨rfl, hcause, v, hfetch⟩) (.inl rfl), e⟩

/-! ### The step -/

/-- The access that a tick runs is a register write or a register read (R51). -/
theorem State.fetch_run {s : State} {i : Instr} (h : s.fetch = .run i) :
    ∃ r : Reg, (∃ v, i = r.write v) ∨ i = r.read := by
  unfold State.fetch at h
  split at h
  · cases h
  · unfold fetchTick at h
    split at h
    · cases h
    · split at h
      · cases h
      · rename_i a _
        cases h
        unfold decodeAccess
        split
        · exact ⟨_, .inl ⟨_, rfl⟩⟩
        · exact ⟨_, .inr rfl⟩

theorem exec_write_result {s : State} (r : Reg) (v : Word) (hfetch : s.fetch = .run (r.write v)) :
    ∃ w rd, s.TickResult w ∧ exec (r.write v) s = .next (w.endTick rd) := by
  cases r with
  | cmdLo => exact ⟨_, none, State.storeCmdLo_result v, rfl⟩
  | cmdHi =>
    obtain ⟨w, hw, e⟩ := State.issueTick_result hfetch
    exact ⟨w, none, hw, congrArg _ e⟩
  | status | pin | diagRate | evcount | evdata | monState =>
    exact ⟨_, none, State.silentTick_result, rfl⟩

theorem exec_read_result (s : State) (r : Reg) :
    ∃ w rd, s.TickResult w ∧ exec r.read s = .next (w.endTick rd) := by
  cases r with
  | evdata => exact ⟨_, _, State.popEvent_result, rfl⟩
  | cmdLo | cmdHi | status | pin | diagRate | evcount | monState =>
    exact ⟨_, _, State.silentTick_result, rfl⟩

/-- Everything a step can do (R22): a reset tick, or a tick without reset. -/
theorem step_result (s : State) :
    (∃ a, s.fetch = .reset a ∧ step s = .next (s.resetTick a)) ∨
      (∃ w rd, s.TickResult w ∧ step s = .next (w.endTick rd)) := by
  rw [step_eq]
  cases hf : s.fetch with
  | reset a => exact .inl ⟨a, rfl, rfl⟩
  | silent => exact .inr ⟨_, none, State.silentTick_result, rfl⟩
  | run i =>
    obtain ⟨r, ⟨v, rfl⟩ | rfl⟩ := State.fetch_run hf
    · exact .inr (exec_write_result r v hf)
    · exact .inr (exec_read_result s r)

theorem step_cases {s t : State} (h : step s = .next t) :
    (∃ a, s.fetch = .reset a ∧ t = s.resetTick a) ∨ (∃ w rd, s.TickResult w ∧ t = w.endTick rd) := by
  rcases step_result s with ⟨a, hf, e⟩ | ⟨w, rd, hw, e⟩
  · rw [e] at h; cases h
    exact .inl ⟨a, hf, rfl⟩
  · rw [e] at h; cases h
    exact .inr ⟨w, rd, hw, rfl⟩

theorem step_cases_of_notReset {s t : State} (hn : s.NotReset) (h : step s = .next t) :
    ∃ w rd, s.TickResult w ∧ t = w.endTick rd :=
  (step_cases h).resolve_left fun ⟨a, hf, _⟩ => hn a hf

end Sys2Proof.Machine
end

section
/-!
PROOF. Events added to the buffer by a measurement result, and the byte under assembly
(spec/42_receive.md R172 to R179, R185).
-/

namespace Sys2Proof.Machine

/-- The buffer `buf'` and its overflow flag `ovf'` come from `buf` and `ovf` by offering at most `n`
events of the kind `A` to a buffer of EVCAP places (R185). -/
structure Offered (c : Config) (A : Event → Prop) (n : Nat) (buf : List Event) (ovf : Bool)
    (buf' : List Event) (ovf' : Bool) : Prop where
  fits : buf.length ≤ c.evCap → buf'.length ≤ c.evCap
  grows : buf'.length ≤ buf.length + n
  mem : ∀ e ∈ buf', e ∈ buf ∨ A e
  overflow : ovf' = ovf ∨ (ovf' = true ∧ c.evCap < buf.length + n)

namespace Offered

variable {c : Config} {A : Event → Prop} {n m : Nat} {buf buf' buf'' : List Event}
  {ovf ovf' ovf'' : Bool}

theorem refl : Offered c A n buf ovf buf ovf :=
  ⟨id, Nat.le_add_right _ _, fun _ => .inl, .inl rfl⟩

theorem trans (h : Offered c A n buf ovf buf' ovf') (h' : Offered c A m buf' ovf' buf'' ovf'') :
    Offered c A (n + m) buf ovf buf'' ovf'' where
  fits := h'.fits ∘ h.fits
  grows := by have := h.grows; have := h'.grows; omega
  mem e he := (h'.mem e he).elim (h.mem e) .inr
  overflow := by
    have hgrows := h.grows
    rcases h'.overflow with e | ⟨e, hcap⟩
    · exact e ▸ h.overflow.imp_right fun ⟨e, hcap⟩ => ⟨e, by omega⟩
    · exact .inr ⟨e, by omega⟩

theorem mono (h : Offered c A n buf ovf buf' ovf') (hle : n ≤ m) :
    Offered c A m buf ovf buf' ovf' where
  fits := h.fits
  grows := h.grows.trans (Nat.add_le_add_left hle _)
  mem := h.mem
  overflow := h.overflow.imp_right fun ⟨e, hcap⟩ => ⟨e, hcap.trans_le (Nat.add_le_add_left hle _)⟩

end Offered

/-- The events that the result `d` can emit: a RAW only with `d` itself, and only where `d` is no 0
(R172 to R178). -/
def Event.OfResult (d : Nat) : Event → Prop
  | .raw x => d ≠ 0 ∧ x = BitVec.ofNat 16 d
  | _ => True

namespace State

variable {c : Config} {s : State}

theorem emit_offered {A : Event → Prop} {e : Event} (he : A e) :
    Offered c A 1 s.evbuf s.evOvf (s.emit c e).evbuf (s.emit c e).evOvf := by
  rcases emit_cases c s e with ⟨hroom, h⟩ | ⟨hfull, h⟩ <;> rw [h]
  · refine ⟨fun _ => by simpa using hroom, by simp, fun x hx => ?_, .inl rfl⟩
    rcases List.mem_append.mp hx with hx | hx
    · exact .inl hx
    · exact .inr (List.mem_singleton.mp hx ▸ he)
  · exact ⟨id, by simp, fun _ => .inl, .inr ⟨rfl, Nat.lt_succ_of_le hfull⟩⟩

theorem emitBit_offered (d : Nat) (b : Bool) :
    Offered c (Event.OfResult d) 1 s.evbuf s.evOvf (s.emitBit c b).evbuf (s.emitBit c b).evOvf := by
  rcases emitBit_cases c s b with ⟨-, h⟩ | ⟨-, h⟩ <;> rw [h]
  · exact emit_offered trivial
  · exact .refl

theorem advanceBit_offered (d : Nat) :
    Offered c (Event.OfResult d) 1 s.evbuf s.evOvf (s.advanceBit c).evbuf (s.advanceBit c).evOvf := by
  rcases advanceBit_cases c s with ⟨-, h⟩ | ⟨-, h⟩ <;> rw [h]
  · exact emit_offered trivial
  · exact .refl

theorem onSymbol_offered (d : Nat) (y : Symbol) :
    Offered c (Event.OfResult d) 2 s.evbuf s.evOvf (s.onSymbol c y).evbuf (s.onSymbol c y).evOvf := by
  cases y with
  | sync => exact (emit_offered (e := .frame) trivial).mono (by decide)
  | one => exact (emitBit_offered (s := s.setAccBit) d true).trans (advanceBit_offered d)
  | zero => exact (emitBit_offered d false).trans (advanceBit_offered d)
  | unknown => exact .refl

/-- What a result offers to the buffer (R166, R186). -/
theorem handle_offered (d : Nat) :
    Offered c (Event.OfResult d) 2 s.evbuf s.evOvf (s.handle c d).evbuf (s.handle c d).evOvf := by
  rcases handle_cases c s d with ⟨-, h⟩ | ⟨hd, -, h⟩ | ⟨-, -, h⟩ <;> rw [h]
  · rcases onNoSignal_cases c s with ⟨-, h⟩ | ⟨-, h⟩ <;> rw [h]
    · exact .refl
    · exact (emit_offered (s := s.clearByte) (e := .lineBreak) trivial).mono (by decide)
  · exact (emit_offered (s := s.clearGap) (e := .raw _) ⟨hd, rfl⟩).mono (by decide)
  · exact onSymbol_offered (s := s.clearGap) d _

/-! ### The byte under assembly -/

/-- The bits of `acc` that are still to be decoded are 0 (R176). -/
def UndecodedZero (s : State) : Prop := s.acc &&& (0xFF#8 >>> s.bitCnt.toNat) = 0#8

theorem undecodedZero_clearByte : s.clearByte.UndecodedZero :=
  BitVec.zero_and

/-- The places undecided after bit `k` are those undecided before it but its own. -/
theorem undecidedBits_succ : ∀ k : BitVec 3, k ≠ 7 →
    0xFF#8 >>> (k + 1).toNat = (0xFF#8 >>> k.toNat) &&& ~~~(0x80#8 >>> k.toNat) := by
  decide

/-- A bit set in `x` does not show in places that exclude it. -/
theorem or_and_cleared_eq_zero {w : Nat} {x m k : BitVec w} (h : x &&& k = 0#w) :
    (x ||| m) &&& (k &&& ~~~m) = 0#w := by
  calc (x ||| m) &&& (k &&& ~~~m) = (x &&& k) &&& ~~~m := by
        ext i
        simp only [BitVec.getElem_and, BitVec.getElem_or, BitVec.getElem_not]
        cases m[i] <;> simp
    _ = 0#w := by rw [h, BitVec.zero_and]

theorem emitBit_acc (b : Bool) : (s.emitBit c b).acc = s.acc := by
  rcases emitBit_cases c s b with ⟨-, h⟩ | ⟨-, h⟩ <;> simp [h]

theorem emitBit_bitCnt (b : Bool) : (s.emitBit c b).bitCnt = s.bitCnt := by
  rcases emitBit_cases c s b with ⟨-, h⟩ | ⟨-, h⟩ <;> simp [h]

theorem UndecodedZero.emit (h : s.UndecodedZero) (e : Event) : (s.emit c e).UndecodedZero := by
  rwa [UndecodedZero, emit_acc, emit_bitCnt]

/-- The assembler moves on from a bit once the places after it are 0 (R178). -/
theorem UndecodedZero.advanceBit
    (h : s.acc &&& ((0xFF#8 >>> s.bitCnt.toNat) &&& ~~~(0x80#8 >>> s.bitCnt.toNat)) = 0#8) :
    (s.advanceBit c).UndecodedZero := by
  rcases advanceBit_cases c s with ⟨-, e⟩ | ⟨hcnt, e⟩ <;> rw [e]
  · exact undecodedZero_clearByte
  · show s.acc &&& (0xFF#8 >>> (s.bitCnt + 1).toNat) = 0#8
    rw [undecidedBits_succ _ hcnt, h]

theorem UndecodedZero.onOne (h : s.UndecodedZero) : (s.onOne c).UndecodedZero := by
  refine .advanceBit ?_
  rw [emitBit_acc, emitBit_bitCnt]
  exact or_and_cleared_eq_zero h

theorem UndecodedZero.onZero (h : s.UndecodedZero) : (s.onZero c).UndecodedZero := by
  refine .advanceBit ?_
  rw [emitBit_acc, emitBit_bitCnt, ← BitVec.and_assoc, h, BitVec.zero_and]

theorem UndecodedZero.handle (h : s.UndecodedZero) (d : Nat) : (s.handle c d).UndecodedZero := by
  rcases handle_cases c s d with ⟨-, e⟩ | ⟨-, -, e⟩ | ⟨-, -, e⟩ <;> rw [e]
  · rcases onNoSignal_cases c s with ⟨-, e⟩ | ⟨-, e⟩ <;> rw [e]
    · exact undecodedZero_clearByte
    · exact undecodedZero_clearByte.emit .lineBreak
  · exact UndecodedZero.emit (s := s.clearGap) h _
  · cases classify c d with
    | sync => exact undecodedZero_clearByte
    | one => exact UndecodedZero.onOne (s := s.clearGap) h
    | zero => exact UndecodedZero.onZero (s := s.clearGap) h
    | unknown => exact undecodedZero_clearByte
end State
end Sys2Proof.Machine
end

section
/-!
PROOF. Each part of the block's invariant (Sys2Proof/Safety.lean) through the phase step and through a
tick without reset, one rule of each kind per part; then the invariant itself.
-/

namespace Sys2Proof.Machine

namespace State

variable {c : Config} {l : Level} {s w : State}

/-! ### Drive direction and level -/

theorem LineInv.phaseResult (h : s.LineInv) (hr : s.PhaseResult c l w) : w.LineInv := by
  obtain ⟨hdir, hout⟩ := h
  cases hr with
  | idle | lrCount | lrWait | syncLoCount | syncHiCount | bitLoCount | bitHiCount | padCount | padWait =>
    exact ⟨hdir, hout⟩
  | lrReady | lrTimeout => exact ⟨rfl, rfl⟩
  | syncLoEnd hp | syncHiEnd hp | bitLoEnd hp | nextBit hp | nextByte hp =>
    rw [hp] at hdir
    exact ⟨hdir, rfl⟩
  | frameEnd hp =>
    rw [hp] at hout
    rcases endFrame_phase_cases c (s.countSegment c) with e | e <;>
      exact ⟨by rw [e]; rfl, by rw [e]; exact hout⟩
  | padCut hp | padEnd hp =>
    rw [hp] at hdir hout
    exact ⟨hdir, hout⟩
  | mon hp =>
    rw [hp] at hdir hout
    rcases monStep_phase_cases (c := c) (l := l) hp with e | e <;>
      exact ⟨by rw [e, monStep_dir]; exact hdir, by rw [e, monStep_lineOut]; exact hout⟩

theorem LineInv.tickResult (h : s.LineInv) (hr : s.TickResult w) : w.LineInv := by
  have hphase := h.phaseResult (phaseStep_result Config.hw s.sample s)
  cases hr with
  | passed => exact hphase
  | nop => exact h
  | init v pin _ hp => exact ⟨by simp [hp, Phase.driving], by simpa using h.2⟩
  | send v p2 p3 dev c1 c2 c3 _ hp | monitor v mode mi timeout rate _ hp =>
    exact ⟨rfl, by simpa [hp, Phase.marking] using h.2⟩

/-- The end of a tick writes no output. -/
theorem LineInv.endTick (h : s.LineInv) (rd : Option Word) : (s.endTick rd).LineInv := h

/-! ### Report -/

theorem ReportInv.tickResult (h : s.ReportInv) (hr : s.TickResult w) : w.ReportInv := by
  cases hr with
  | passed lo hi rej cause buf hreport =>
    rcases hreport with ⟨rfl, rfl⟩ | ⟨rfl, hcause, -⟩
    · exact h
    · exact (decide_eq_true hcause).symm
  | nop | init | send | monitor => rfl

/-! ### Binding -/

theorem BoundInv.phaseStep (h : s.BoundInv) : (s.phaseStep c l).BoundInv := fun hbusy =>
  (phaseStep_bound c s l).trans (h (busy_of_phaseStep_busy hbusy))

theorem BoundInv.tickResult (h : s.BoundInv) (hr : s.TickResult w) : w.BoundInv := by
  cases hr with
  | passed => exact h.phaseStep (c := Config.hw) (l := s.sample)
  | nop => exact h
  | init => exact fun _ => rfl
  | send _ _ _ _ _ _ _ _ _ hb | monitor _ _ _ _ _ _ _ hb => exact fun _ => by simpa using hb

/-! ### Event buffer -/

theorem BufferInv.monResult (h : s.BufferInv c) (hp : s.phase = .mon) (hr : s.MonResult c w) :
    w.BufferInv c := by
  obtain ⟨hfits, hmon, -⟩ := h
  have hrdy : s.evRdy = false := hmon hp
  cases hr with
  | flush => exact ⟨hfits, nofun, nofun⟩
  | count | edge => exact ⟨hfits, hmon, fun h => absurd hp h⟩
  | result m k d =>
    refine ⟨(handle_offered d).fits hfits, fun _ => ?_, fun h => absurd ?_ h⟩
    · simpa using hrdy
    · simpa using hp

theorem BufferInv.phaseStep (h : s.BufferInv c) : (s.phaseStep c l).BufferInv c := by
  by_cases hp : s.phase = .mon
  · rw [phaseStep_mon c s l hp]
    exact h.monResult hp (monStep_result c l s)
  · obtain ⟨-, -, -, -, -, hbuf, hrdy, hovf⟩ := phaseStep_receive_frame c s l hp
    obtain ⟨hfits, -, hclear⟩ := h
    refine ⟨hbuf ▸ hfits, fun hw => absurd ((phaseStep_result c l s).mon_of_mon hw) hp, fun _ => ?_⟩
    rw [hbuf, hrdy, hovf]
    exact hclear hp

theorem BufferInv.tickResult (h : s.BufferInv Config.hw) (hr : s.TickResult w) :
    w.BufferInv Config.hw := by
  cases hr with
  | passed lo hi rej cause buf _ hbuf =>
    obtain ⟨hfits', hmon', hclear'⟩ := h.phaseStep (l := s.sample)
    obtain ⟨hfits, hmon, hclear⟩ := h
    rcases hbuf with rfl | ⟨hrdy, rfl⟩
    · exact ⟨hfits', hmon', hclear'⟩
    · have hp : s.phase ≠ .mon := fun hp => by simp [hmon hp] at hrdy
      obtain ⟨-, -, -, -, -, -, hrdy', -⟩ := phaseStep_receive_frame Config.hw s s.sample hp
      rw [hrdy] at hrdy'
      refine ⟨?_, hmon', fun _ hnot => absurd (hrdy'.symm.trans hnot) (by decide)⟩
      exact (List.tail_sublist _).length_le.trans hfits
  | nop | init => simpa [BufferInv] using h
  | send v p2 p3 dev c1 c2 c3 _ hp =>
    obtain ⟨hfits, -, hclear⟩ := h
    simpa [BufferInv] using And.intro hfits (hclear (by simp [hp]))
  | monitor => exact ⟨Nat.zero_le _, fun _ => rfl, fun _ _ => ⟨rfl, rfl⟩⟩

/-! ### Registers and waits -/

/-- In the configuration in use the width bounds are numbers, and a PIN byte meets its own (R7). -/
theorem counterInv_hw_iff : s.CounterInv Config.hw ↔
    s.el ≤ 4294967295 ∧ s.lrLastLow ≤ 4294967295 ∧ s.timeout < 4294967296 ∧
      (s.phase = .lr → s.poll < 25 ∧ s.lrLastLow ≤ s.el) ∧ (s.phase = .pad → s.poll < 25) := by
  have hpin : s.pin.toNat < 256 := s.pin.isLt
  simp [CounterInv, hpin]

theorem CounterInv.phaseResult (h : s.CounterInv Config.hw) (hr : s.PhaseResult Config.hw l w) :
    w.CounterInv Config.hw := by
  rw [counterInv_hw_iff] at h ⊢
  obtain ⟨hel, hlast, htimeout, hlr, hpad⟩ := h
  cases hr with
  | idle => exact ⟨hel, hlast, htimeout, hlr, hpad⟩
  | lrCount hp hpoll =>
    obtain ⟨hlt, hle⟩ := hlr hp
    simp only [countPoll_el, countPoll_poll, countPoll_lrLastLow, countPoll_timeout, saturate_hw]
    exact ⟨by omega, hlast, htimeout, fun _ => ⟨lt_of_le_of_ne hlt hpoll, by omega⟩, by simp [hp]⟩
  | lrWait hp =>
    obtain ⟨-, hle⟩ := hlr hp
    cases l <;> simp [hp, saturate_hw] <;> omega
  | lrReady hp | lrTimeout hp => cases l <;> simp [saturate_hw, *]
  | padCount hp hpoll =>
    have hlt := hpad hp
    simp only [countPoll_el, countPoll_poll, countPoll_lrLastLow, countPoll_timeout, saturate_hw]
    exact ⟨by omega, hlast, htimeout, by simp [hp], fun _ => lt_of_le_of_ne hlt hpoll⟩
  | frameEnd =>
    rcases endFrame_phase_cases Config.hw (s.countSegment Config.hw) with e | e <;>
      simp [-endFrame_phase, saturate_hw, *]
  | mon hp =>
    rcases monStep_phase_cases (c := Config.hw) (l := l) hp with e | e <;> simp [saturate_hw, *]
  | _ => simp [saturate_hw, *]

theorem CounterInv.tickResult (h : s.CounterInv Config.hw) (hr : s.TickResult w) :
    w.CounterInv Config.hw := by
  have hstep := h.phaseResult (phaseStep_result Config.hw s.sample s)
  rw [counterInv_hw_iff] at h hstep ⊢
  obtain ⟨hel, hlast, htimeout, -, -⟩ := h
  cases hr with
  | passed => exact hstep
  | nop _ _ hp | init _ _ _ hp => simp [hp, hel, hlast, htimeout]
  | send => simp [htimeout]
  | monitor _ _ _ timeout => simpa [hlast, timeoutValue] using timeout.isLt

/-! ### Segment -/

/-- A count that has not reached the end of a segment of length `n` stays within it. -/
theorem seg_succ_lt {n : Nat} (h : s.seg < n) (hne : s.seg + 1 ≠ n) : (s.countSegment c).seg < n :=
  lt_of_le_of_ne h hne

theorem markLen_hw_pos (b : Bool) : 0 < markLen Config.hw b := by
  cases b <;> decide

theorem SegmentInv.phaseResult (h : s.SegmentInv Config.hw) (hr : s.PhaseResult Config.hw l w) :
    w.SegmentInv Config.hw := by
  unfold SegmentInv at h ⊢
  cases hr with
  | idle => exact h
  | syncLoCount hp hseg | syncHiCount hp hseg | bitLoCount hp hseg | bitHiCount hp hseg =>
    simp only [hp, countSegment_phase] at h ⊢
    exact seg_succ_lt h hseg
  | lrReady | lrTimeout | syncLoEnd | bitLoEnd => exact Nat.zero_lt_succ _
  | syncHiEnd | nextBit | nextByte => exact markLen_hw_pos _
  | lrCount hp | lrWait hp | padCount hp | padWait hp => simp [hp]
  | padCut | padEnd => trivial
  | frameEnd =>
    rcases endFrame_phase_cases Config.hw (s.countSegment Config.hw) with e | e <;> rw [e] <;> trivial
  | mon hp =>
    rcases monStep_phase_cases (c := Config.hw) (l := l) hp with e | e <;> rw [e] <;> trivial

theorem SegmentInv.tickResult (h : s.SegmentInv Config.hw) (hr : s.TickResult w) :
    w.SegmentInv Config.hw := by
  have hstep := h.phaseResult (phaseStep_result Config.hw s.sample s)
  cases hr with
  | passed => exact hstep
  | nop _ _ hp | init _ _ _ hp => simp [SegmentInv, hp]
  | send | monitor => trivial

/-! ### Frame -/

/-- The number of bytes that a SEND latches lies in 2 to 4 (R103). -/
theorem latchedCount_bounds (p2 p3 : Bool) :
    2 ≤ (latchedCount p2 p3).toNat ∧ (latchedCount p2 p3).toNat ≤ 4 := by
  revert p2 p3
  decide

theorem FrameInv.phaseResult (h : s.FrameInv) (hr : s.PhaseResult c l w) : w.FrameInv := by
  obtain ⟨hcount, hbyte⟩ := h
  cases hr with
  | idle | lrCount | lrWait | syncLoCount | syncHiCount | bitLoCount | bitHiCount | padCount
  | padWait => exact ⟨hcount, hbyte⟩
  | lrReady hp | lrTimeout hp | syncLoEnd hp =>
    have hn := hcount (by rw [hp]; rfl)
    exact ⟨fun _ => hn, nofun⟩
  | syncHiEnd hp =>
    have hn := hcount (by rw [hp]; rfl)
    exact ⟨fun _ => hn, fun _ => Nat.lt_of_lt_of_le Nat.two_pos hn.1⟩
  | bitLoEnd hp | nextBit hp =>
    have hn := hcount (by rw [hp]; rfl)
    exact ⟨fun _ => hn, fun _ => hbyte (by simp [hp])⟩
  | nextByte hp _ _ hnext =>
    have hn := hcount (by rw [hp]; rfl)
    refine ⟨fun _ => hn, fun _ => ?_⟩
    simp only [startBit_byteIdx, startBit_nbytes, countSegment_nbytes, BitVec.toNat_add]
    exact (Nat.mod_le _ _).trans_lt hnext
  | padCut | padEnd => exact ⟨nofun, nofun⟩
  | frameEnd hp =>
    have hn := hcount (by rw [hp]; rfl)
    refine ⟨fun _ => hn, fun hw => ?_⟩
    rcases endFrame_phase_cases c (s.countSegment c) with e | e <;> simp [-endFrame_phase, e] at hw
  | mon hp =>
    rcases monStep_phase_cases (c := c) (l := l) hp with e | e <;> simp [FrameInv, e, Phase.sending]

theorem FrameInv.tickResult (h : s.FrameInv) (hr : s.TickResult w) : w.FrameInv := by
  have hstep := h.phaseResult (phaseStep_result Config.hw s.sample s)
  cases hr with
  | passed => exact hstep
  | nop _ _ hp | init _ _ _ hp => simp [FrameInv, hp, Phase.sending]
  | send v p2 p3 => exact ⟨fun _ => latchedCount_bounds p2 p3, nofun⟩
  | monitor => exact ⟨nofun, nofun⟩

/-! ### Measurement -/

theorem MeasureInv.monResult (h : s.MeasureInv Config.hw) (hp : s.phase = .mon)
    (hr : s.MonResult Config.hw w) : w.MeasureInv Config.hw := by
  obtain ⟨-, htop, hmid⟩ := h
  cases hr with
  | flush hmp => exact ⟨fun _ => hmp, htop, hmid⟩
  | count m k hmp hfrom hcap =>
    refine ⟨fun h => absurd hp h, fun h => absurd h hmp, fun _ => ⟨Nat.succ_pos k, ?_⟩⟩
    rcases hfrom with ⟨-, -, rfl⟩ | ⟨rfl, rfl⟩
    · simp
    · exact lt_of_le_of_ne (hmid hmp).2 hcap
  | edge m hmp =>
    exact ⟨fun h => absurd hp h, fun h => absurd h hmp, fun _ => ⟨Nat.one_pos, by simp⟩⟩
  | result => exact ⟨fun _ => rfl, fun _ => rfl, fun h => absurd rfl h⟩

theorem MeasureInv.phaseStep (h : s.MeasureInv Config.hw) :
    (s.phaseStep Config.hw l).MeasureInv Config.hw := by
  by_cases hp : s.phase = .mon
  · rw [phaseStep_mon _ s l hp]
    exact h.monResult hp (monStep_result _ l s)
  · obtain ⟨hmp, hmc, -⟩ := phaseStep_receive_frame Config.hw s l hp
    unfold MeasureInv
    rw [hmp, hmc]
    exact ⟨fun _ => h.1 hp, h.2⟩

theorem MeasureInv.tickResult (h : s.MeasureInv Config.hw) (hr : s.TickResult w) :
    w.MeasureInv Config.hw := by
  have hstep := h.phaseStep (l := s.sample)
  cases hr with
  | passed => exact hstep
  | nop | init => simpa [MeasureInv] using h
  | send _ _ _ _ _ _ _ _ hp =>
    obtain ⟨htop, hmc⟩ := h
    simpa [MeasureInv] using And.intro (htop (by simp [hp])) hmc
  | monitor => exact ⟨fun _ => rfl, fun _ => rfl, fun h => absurd rfl h⟩

/-! ### Decoder -/

/-- A result other than 0 is the sample count of a pulse, so below the cap (R165). -/
theorem MeasureInv.result_lt {d : Nat} (h : s.MeasureInv Config.hw)
    (hd : d = 0 ∨ (s.mp = .time ∧ d = s.mc)) : d < 3000 := by
  rcases hd with rfl | ⟨hmp, rfl⟩
  · decide
  · exact (h.2.2 (by simp [hmp])).2

/-- The RAW event of a result below the cap carries the result (R173). -/
theorem raw_ofResult_bounds {d : Nat} {x : BitVec 16} (hd : d < 3000)
    (h : Event.OfResult d (.raw x)) : 0 < x.toNat ∧ x.toNat < 3000 := by
  obtain ⟨hne, rfl⟩ := h
  rw [BitVec.toNat_ofNat, Nat.mod_eq_of_lt (by omega)]
  exact ⟨Nat.pos_of_ne_zero hne, hd⟩

theorem DecoderInv.monResult (h : s.DecoderInv Config.hw) (hm : s.MeasureInv Config.hw)
    (hr : s.MonResult Config.hw w) : w.DecoderInv Config.hw := by
  cases hr with
  | flush | count | edge => exact h
  | result m k d hd =>
    obtain ⟨hmode, hacc, hraw⟩ := h
    refine ⟨?_, ?_, fun x hx => ?_⟩
    · simpa using hmode
    · exact UndecodedZero.handle (s := s.measuring Config.hw m k) hacc d
    · rcases (handle_offered d).mem _ hx with hold | hnew
      · exact hraw x hold
      · exact raw_ofResult_bounds (hm.result_lt hd) hnew

theorem DecoderInv.phaseStep (h : s.DecoderInv Config.hw) (hm : s.MeasureInv Config.hw) :
    (s.phaseStep Config.hw l).DecoderInv Config.hw := by
  by_cases hp : s.phase = .mon
  · rw [phaseStep_mon _ s l hp]
    exact h.monResult hm (monStep_result _ l s)
  · obtain ⟨-, -, hacc, hcnt, -, hbuf, -⟩ := phaseStep_receive_frame Config.hw s l hp
    unfold DecoderInv
    rw [phaseStep_mode, hacc, hcnt, hbuf]
    exact h

theorem DecoderInv.tickResult (h : s.DecoderInv Config.hw) (hm : s.MeasureInv Config.hw)
    (hr : s.TickResult w) : w.DecoderInv Config.hw := by
  cases hr with
  | passed lo hi rej cause buf _ hbuf =>
    obtain ⟨hmode, hacc, hraw⟩ := h.phaseStep (l := s.sample) hm
    refine ⟨hmode, hacc, ?_⟩
    rcases hbuf with rfl | ⟨-, rfl⟩
    · exact hraw
    · exact fun d hd => h.2.2 d (List.mem_of_mem_tail hd)
  | nop | init | send => simpa [DecoderInv] using h
  | monitor _ _ _ _ _ _ _ _ hmode => exact ⟨hmode, BitVec.zero_and, nofun⟩

/-! ### The invariant -/

theorem Inv.tickResult (h : s.Inv Config.hw) (hr : s.TickResult w) : w.Inv Config.hw where
  line := h.line.tickResult hr
  report := h.report.tickResult hr
  bound := h.bound.tickResult hr
  buffer := h.buffer.tickResult hr
  counter := h.counter.tickResult hr
  segment := h.segment.tickResult hr
  frame := h.frame.tickResult hr
  measure := h.measure.tickResult hr
  decoder := h.decoder.tickResult h.measure hr

/-- No part of the invariant reads a field that the end of a tick writes. -/
theorem Inv.endTick (h : s.Inv c) (rd : Option Word) : (s.endTick rd).Inv c :=
  ⟨h.line, h.report, h.bound, h.buffer, h.counter, h.segment, h.frame, h.measure, h.decoder⟩

end State

/-- Settles O55, part by part. -/
theorem resetMeetsInvariant : Obligations.ResetMeetsInvariant where
  line := ⟨rfl, rfl⟩
  report := rfl
  bound := fun h => absurd rfl h
  buffer := ⟨Nat.zero_le _, nofun, fun _ _ => ⟨rfl, rfl⟩⟩
  counter := State.counterInv_hw_iff.mpr (by decide)
  segment := trivial
  frame := ⟨nofun, nofun⟩
  measure := ⟨fun _ => rfl, fun _ => rfl, fun h => absurd rfl h⟩
  decoder := ⟨by decide, rfl, nofun⟩

/-- A reset tick writes the reset state but for fields that the invariant does not read (R230). -/
theorem State.inv_resetTick (s : State) (a : Option BusAccess) : (s.resetTick a).Inv Config.hw :=
  have h := resetMeetsInvariant
  ⟨h.line, h.report, h.bound, h.buffer, h.counter, h.segment, h.frame, h.measure, h.decoder⟩

/-- Settles O56: the step is a reset tick or leaves a tick result, and each part of the invariant is kept
by both. -/
theorem stepKeepsInvariant : Obligations.StepKeepsInvariant := by
  intro s t h hstep
  rcases step_cases hstep with ⟨a, -, rfl⟩ | ⟨w, rd, hr, rfl⟩
  · exact s.inv_resetTick a
  · exact (h.tickResult hr).endTick rd

/-- Settles O57: its part of the invariant is kept without the others. -/
theorem lineDriveKept : Obligations.LineDriveKept := by
  intro s t h hstep
  rcases step_cases hstep with ⟨a, -, rfl⟩ | ⟨w, rd, hr, rfl⟩
  · exact (s.inv_resetTick a).line
  · exact (h.tickResult hr).endTick rd

end Sys2Proof.Machine
end

section
/-!
PROOF. What the phase step and a tick do to each flag of spec/10_state.md R47, what a tick leaves of the
operand latches (R25), and that every step has an outcome (spec/93_implementation_defined.md).
-/

namespace Sys2Proof.Machine

/-- A flag that is kept, or set where `P` holds, or cleared where `Q` holds. -/
def FlagMove (P Q : Prop) (old new : Bool) : Prop :=
  new = old ∨ (new = true ∧ P) ∨ (new = false ∧ Q)

namespace FlagMove

variable {P Q : Prop} {old new : Bool}

theorem of_set (h : FlagMove P Q old new) (hold : old = false) (hnew : new = true) : P := by
  subst hold hnew
  simpa [FlagMove] using h

theorem of_clear (h : FlagMove P Q old new) (hold : old = true) (hnew : new = false) : Q := by
  subst hold hnew
  simpa [FlagMove] using h

end FlagMove

namespace State

variable {c : Config} {l : Level} {s w : State}

/-! ### The flags through the phase step -/

theorem PhaseResult.lrto_move (hr : s.PhaseResult c l w) :
    FlagMove (s.phase = .lr ∧ w.phase = .syncLo) False s.lrto w.lrto := by
  cases hr with
  | lrTimeout hp => exact .inr (.inl ⟨rfl, hp, rfl⟩)
  | mon => exact .inl (monStep_lrto c s l)
  | _ => exact .inl rfl

theorem PhaseResult.padcut_move (hr : s.PhaseResult c l w) :
    FlagMove (s.phase = .pad ∧ w.phase = .idle ∧ l = false) False s.padcut w.padcut := by
  cases hr with
  | padCut hp _ hline => exact .inr (.inl ⟨rfl, hp, rfl, hline⟩)
  | mon => exact .inl (monStep_padcut c s l)
  | _ => exact .inl rfl

theorem phaseStep_evRdy_move :
    FlagMove (s.phase = .mon ∧ (s.phaseStep c l).phase = .idle) False s.evRdy
      (s.phaseStep c l).evRdy := by
  by_cases hp : s.phase = .mon
  · rw [phaseStep_mon c s l hp]
    rcases monStep_exit c s l with ⟨-, -, e⟩ | ⟨-, -, e⟩
    · rw [e]
      exact .inr (.inl ⟨rfl, hp, rfl⟩)
    · exact .inl e
  · obtain ⟨-, -, -, -, -, -, hrdy, -⟩ := phaseStep_receive_frame c s l hp
    exact .inl hrdy

theorem MonResult.evOvf_move (hr : s.MonResult c w) :
    FlagMove (c.evCap ≤ s.evbuf.length + 1) False s.evOvf w.evOvf := by
  cases hr with
  | flush | count | edge => exact .inl rfl
  | result m k d =>
    exact (handle_offered d).overflow.imp_right fun ⟨hset, hcap⟩ =>
      .inl ⟨hset, Nat.le_of_lt_succ hcap⟩

theorem phaseStep_evOvf_move :
    FlagMove (s.phase = .mon ∧ c.evCap ≤ s.evbuf.length + 1) False s.evOvf
      (s.phaseStep c l).evOvf := by
  by_cases hp : s.phase = .mon
  · rw [phaseStep_mon c s l hp]
    simpa [hp] using (monStep_result c l s).evOvf_move
  · obtain ⟨-, -, -, -, -, -, -, hovf⟩ := phaseStep_receive_frame c s l hp
    exact .inl hovf

theorem MonResult.gapNoted_move (hr : s.MonResult c w) (hp : s.phase = .mon) :
    w.gapNoted = s.gapNoted ∨ w.phase = .mon := by
  cases hr with
  | flush | count | edge => exact .inl rfl
  | result => exact .inr (by simpa using hp)

theorem phaseStep_gapNoted_move :
    FlagMove (s.phase = .mon) ((s.phaseStep c l).phase = .mon) s.gapNoted
      (s.phaseStep c l).gapNoted := by
  by_cases hp : s.phase = .mon
  · rw [phaseStep_mon c s l hp]
    rcases (monStep_result c l s).gapNoted_move hp with hkeep | hmon
    · exact .inl hkeep
    · cases hgap : (s.monStep c l).gapNoted
      · exact .inr (.inr ⟨rfl, hmon⟩)
      · exact .inr (.inl ⟨rfl, hp⟩)
  · obtain ⟨-, -, -, -, hgap, -⟩ := phaseStep_receive_frame c s l hp
    exact .inl hgap

/-! ### The flags through a tick without reset -/

theorem TickResult.rej_kept (hr : s.TickResult w) (hn : w.rej ≠ s.rej) :
    ∃ v, s.fetch = .run (.wrCmdHi v) := by
  cases hr with
  | passed _ _ _ _ _ hreport =>
    rcases hreport with ⟨hkeep, -⟩ | ⟨-, -, hfetch⟩
    · exact absurd hkeep hn
    · exact hfetch
  | nop v hfetch | init v _ hfetch | send v _ _ _ _ _ _ hfetch | monitor v _ _ _ _ hfetch =>
    exact ⟨v, hfetch⟩

theorem TickResult.lrto_move (hr : s.TickResult w) :
    FlagMove (s.phase = .lr ∧ w.phase = .syncLo) (s.phase = .idle ∧ w.phase = .lr)
      s.lrto w.lrto := by
  have hstep := (phaseStep_result Config.hw s.sample s).lrto_move
  cases hr with
  | passed => exact hstep.imp_right (.imp_right fun h => h.2.elim)
  | nop | init => exact .inl rfl
  | send _ _ _ _ _ _ _ _ hp => exact .inr (.inr ⟨rfl, hp, rfl⟩)
  | monitor => exact .inl (by simp)

theorem TickResult.padcut_move (hr : s.TickResult w) :
    FlagMove (s.phase = .pad ∧ w.phase = .idle ∧ s.sample = false) (s.phase = .idle ∧ w.phase = .lr)
      s.padcut w.padcut := by
  have hstep := (phaseStep_result Config.hw s.sample s).padcut_move
  cases hr with
  | passed => exact hstep.imp_right (.imp_right fun h => h.2.elim)
  | nop | init => exact .inl rfl
  | send _ _ _ _ _ _ _ _ hp => exact .inr (.inr ⟨rfl, hp, rfl⟩)
  | monitor => exact .inl (by simp)

theorem TickResult.evRdy_move (hr : s.TickResult w) :
    FlagMove (s.phase = .mon ∧ w.phase = .idle) (s.phase = .idle ∧ w.phase = .mon)
      s.evRdy w.evRdy := by
  have hstep := phaseStep_evRdy_move (c := Config.hw) (l := s.sample) (s := s)
  cases hr with
  | passed => exact hstep.imp_right (.imp_right fun h => h.2.elim)
  | nop | init => exact .inl rfl
  | send => exact .inl (by simp)
  | monitor _ _ _ _ _ _ hp => exact .inr (.inr ⟨rfl, hp, rfl⟩)

theorem TickResult.evOvf_move (hr : s.TickResult w) :
    FlagMove (s.phase = .mon ∧ 4096 ≤ s.evbuf.length + 1) (s.phase = .idle ∧ w.phase = .mon)
      s.evOvf w.evOvf := by
  have hstep := phaseStep_evOvf_move (c := Config.hw) (l := s.sample) (s := s)
  cases hr with
  | passed => exact hstep.imp_right (.imp_right fun h => h.2.elim)
  | nop | init => exact .inl rfl
  | send => exact .inl (by simp)
  | monitor _ _ _ _ _ _ hp => exact .inr (.inr ⟨rfl, hp, rfl⟩)

theorem TickResult.gapNoted_move (hr : s.TickResult w) :
    FlagMove (s.phase = .mon) (w.phase = .mon) s.gapNoted w.gapNoted := by
  have hstep := phaseStep_gapNoted_move (c := Config.hw) (l := s.sample) (s := s)
  cases hr with
  | passed => exact hstep
  | nop | init => exact .inl rfl
  | send => exact .inl (by simp)
  | monitor => exact .inr (.inr ⟨rfl, rfl⟩)

theorem TickResult.bound_move (hr : s.TickResult w) :
    FlagMove (∃ v, s.fetch = .run (.wrCmdHi v) ∧ s.phase = .idle ∧
      opField (commandWord v s.cmdLo) = 1#4) False s.bound w.bound := by
  cases hr with
  | passed => exact .inl (phaseStep_bound Config.hw s s.sample)
  | nop => exact .inl rfl
  | init v _ hfetch hp hop => exact .inr (.inl ⟨rfl, v, hfetch, hp, hop⟩)
  | send | monitor => exact .inl (by simp)

/-! ### What a tick leaves -/

theorem TickResult.inputs_kept (hr : s.TickResult w) :
    w.tick = s.tick ∧ w.lineIn = s.lineIn ∧ w.hostIn = s.hostIn ∧ w.lineId = s.lineId := by
  cases hr with
  | passed | nop | init | send | monitor => simp

theorem TickResult.latches_kept (hr : s.TickResult w) (hbusy : s.phase ≠ .idle) :
    w.fb = s.fb ∧ w.nbytes = s.nbytes ∧ w.mode = s.mode ∧ w.mi = s.mi ∧ w.timeout = s.timeout := by
  cases hr with
  | passed => simp
  | nop _ _ hp | init _ _ _ hp | send _ _ _ _ _ _ _ _ hp | monitor _ _ _ _ _ _ hp =>
    exact absurd hp hbusy

end State

/-- OP as the low four bits of the command word (R77). -/
theorem and_15_eq_one_of_opField {cw : CommandWord} (h : opField cw = 1#4) : cw &&& 0xF#64 = 1 := by
  apply BitVec.eq_of_toNat_eq
  have hop := congrArg BitVec.toNat h
  rw [opField, toNat_slice] at hop
  rw [BitVec.toNat_and]
  exact (Nat.and_two_pow_sub_one_eq_mod cw.toNat 4).trans (by simpa using hop)

/-- Settles O58: each flag by its own rule about a tick without reset. -/
theorem flagsWrittenOnlyAsListed : Obligations.FlagsWrittenOnlyAsListed := by
  intro s t hn hstep
  obtain ⟨w, rd, hr, rfl⟩ := step_cases_of_notReset hn hstep
  refine ⟨hr.rej_kept, hr.lrto_move.of_set, hr.lrto_move.of_clear, hr.padcut_move.of_set,
    hr.padcut_move.of_clear, hr.evRdy_move.of_set, hr.evRdy_move.of_clear, hr.evOvf_move.of_set,
    hr.evOvf_move.of_clear, hr.gapNoted_move.of_set, hr.gapNoted_move.of_clear, ?_, ?_⟩
  · intro hold hnew
    obtain ⟨v, hfetch, hp, hop⟩ := hr.bound_move.of_set hold hnew
    exact ⟨v, hfetch, hp, and_15_eq_one_of_opField hop⟩
  · exact fun hold => eq_true_of_ne_false fun hnew => hr.bound_move.of_clear hold hnew

/-- Settles O42: a tick of a busy block accepts no command, and the phase step writes no latch. -/
theorem operandLatchesHeld : Obligations.OperandLatchesHeld := by
  intro s t hbusy hn hstep
  obtain ⟨w, rd, hr, rfl⟩ := step_cases_of_notReset hn hstep
  exact hr.latches_kept hbusy

/-- Settles O6: both forms of a step answer a state, and their ends consume the inputs of one tick. -/
theorem everyStepAnswersNext : Obligations.EveryStepAnswersNext := by
  intro s
  rcases step_result s with ⟨a, -, e⟩ | ⟨w, rd, hr, e⟩
  · exact ⟨_, e, rfl, rfl, rfl, rfl⟩
  · obtain ⟨htick, hline, hhost, hid⟩ := hr.inputs_kept
    exact ⟨_, e, by simp [htick], by simp [hline], by simp [hhost], by simp [hid]⟩

end Sys2Proof.Machine
end

section
/-!
PROOF. The reset state's fields and reads (spec/10_state.md R46, R38), which tick a step takes (R22), and
the reads of MON_STATE (R44, R113) and EVDATA (R43, R112).
-/

namespace Sys2Proof.Machine

/-- Settles O1. -/
theorem resetStateMatchesTable : Obligations.ResetStateMatchesTable := by
  unfold Obligations.ResetStateMatchesTable
  decide

/-- Settles O2, register by register. -/
theorem resetRegisterReads : Obligations.ResetRegisterReads := by
  refine ⟨by decide, fun line r hr => ?_⟩
  cases r with
  | status => exact absurd rfl hr
  | cmdLo | cmdHi | pin | diagRate | evcount | evdata | monState => rfl

/-! ### Which tick a step takes -/

theorem State.fetch_of_access {s : State} {a : BusAccess} {rest : List HostTick}
    (h : s.hostIn = ⟨false, some a⟩ :: rest) : s.fetch = .run (decodeAccess a) := by
  simp [State.fetch, h, fetchTick]

theorem State.fetch_of_noAccess {s : State} {rest : List HostTick}
    (h : s.hostIn = ⟨false, none⟩ :: rest) : s.fetch = .silent := by
  simp [State.fetch, h, fetchTick]

theorem State.fetch_of_noInput {s : State} (h : s.hostIn = []) : s.fetch = .silent := by
  simp [State.fetch, h]

theorem step_of_run {s : State} {i : Instr} (h : s.fetch = .run i) : step s = exec i s := by
  rw [step_eq, h]

theorem step_of_silent {s : State} (h : s.fetch = .silent) :
    step s = .next (s.silentTick Config.hw) := by
  rw [step_eq, h]

/-- Settles O4: by what the ports of the coming tick say. -/
theorem stepRunsDecodedAccess : Obligations.StepRunsDecodedAccess :=
  ⟨fun _ _ _ h => step_of_run (State.fetch_of_access h),
    fun _ _ h => step_of_silent (State.fetch_of_noAccess h),
    fun _ h => step_of_silent (State.fetch_of_noInput h)⟩

/-! ### MON_STATE -/

/-- The MON_STATE word as a sum of its fields (R44). -/
theorem State.toNat_monStateWord (s : State) :
    s.monStateWord.toNat = s.acc.toNat + 2 ^ 8 * s.bitCnt.toNat + 2 ^ 11 * s.gapNoted.toNat +
      2 ^ 12 * s.mp.code.toNat + 2 ^ 14 * s.mode.toNat + 2 ^ 16 * s.mi.toNat +
      2 ^ 17 * (s.mc % 2 ^ 12) := by
  show BitVec.toNat (w := 3 + 12 + 1 + 2 + 2 + 1 + 3 + 8)
    (0#3 ++ BitVec.ofNat 12 s.mc ++ BitVec.ofBool s.mi ++ s.mode ++ s.mp.code ++
      BitVec.ofBool s.gapNoted ++ s.bitCnt ++ s.acc) = _
  simp only [toNat_concat, BitVec.toNat_ofBool, BitVec.toNat_ofNat]
  omega

/-- A bit read from a number that holds a flag is the flag. -/
theorem decide_eq_one_of_toNat {n : Nat} {b : Bool} (h : n = b.toNat) : decide (n = 1) = b := by
  subst h
  cases b <;> rfl

/-- Each field of the MON_STATE word reads as the state's (R44). -/
theorem State.monStateWord_fields (s : State) :
    s.monStateWord.extractLsb' 0 8 = s.acc ∧ s.monStateWord.extractLsb' 8 3 = s.bitCnt ∧
      s.monStateWord.getLsbD 11 = s.gapNoted ∧ s.monStateWord.extractLsb' 12 2 = s.mp.code ∧
      s.monStateWord.extractLsb' 14 2 = s.mode ∧ s.monStateWord.getLsbD 16 = s.mi ∧
      s.monStateWord.extractLsb' 17 12 = BitVec.ofNat 12 s.mc ∧
      s.monStateWord.extractLsb' 29 3 = 0#3 := by
  have hacc := s.acc.isLt
  have hcnt := s.bitCnt.isLt
  have hgap := s.gapNoted.toNat_lt
  have hmp := s.mp.code.isLt
  have hmode := s.mode.isLt
  have hmi := s.mi.toNat_lt
  simp only [← BitVec.toNat_inj, getLsbD_eq_decide, toNat_slice, BitVec.toNat_ofNat,
    s.toNat_monStateWord]
  exact ⟨by omega, by omega, decide_eq_one_of_toNat (by omega), by omega, by omega,
    decide_eq_one_of_toNat (by omega), by omega, by omega⟩

/-- Settles O28: the read data by the fields of the word, the rest by the form of a read tick. -/
theorem monStateReadReturnsFields : Obligations.MonStateReadReturnsFields := by
  intro s
  obtain ⟨hacc, hcnt, hgap, hmp, hmode, hmi, hmc, hzero⟩ := s.monStateWord_fields
  refine ⟨s.monStateWord, rfl, hacc, hcnt, hgap, hmp.trans ?_, hmode, hmi, hmc, hzero⟩
  cases s.mp <;> rfl

/-! ### EVDATA -/

theorem Event.word_bit (b : Bool) :
    (Event.bit b).word = if b then 0xA0000001#32 else 0xA0000000#32 := by
  cases b <;> rfl

theorem Event.word_byte (v : Byte) : (Event.byte v).word = 0xB00000#24 ++ v := by
  apply BitVec.eq_of_toNat_eq
  show BitVec.toNat (w := 1 + 3 + 12 + (8 + 8)) (1#1 ++ 3#3 ++ 0#12 ++ (0#8 ++ v)) =
    BitVec.toNat (w := 24 + 8) (0xB00000#24 ++ v)
  simp only [toNat_concat, BitVec.toNat_ofNat]
  omega

theorem Event.word_raw (d : BitVec 16) : (Event.raw d).word = 0xC000#16 ++ d := by
  apply BitVec.eq_of_toNat_eq
  show BitVec.toNat (w := 1 + 3 + 12 + 16) (1#1 ++ 4#3 ++ 0#12 ++ d) =
    BitVec.toNat (w := 16 + 16) (0xC000#16 ++ d)
  simp only [toNat_concat, BitVec.toNat_ofNat]
  omega

/-- An EVDATA read of a readable event returns its word and removes it (R112). -/
theorem exec_rdEvdata_of_readable {s : State} {e : Event} {rest : List Event}
    (hrdy : s.evRdy = true) (hbuf : s.evbuf = e :: rest) :
    exec .rdEvdata s =
      .next { s.silentTick Config.hw with evbuf := rest, hrdata := some e.word } := by
  have hword : s.evdataWord = e.word := by simp [State.evdataWord, hrdy, hbuf]
  have hpop (w : State) : s.popEvent w = { w with evbuf := rest } := by
    simp [State.popEvent, hrdy, hbuf]
  show Host.Outcome.next ((s.popEvent (s.phaseStep Config.hw s.sample)).endTick
    (some s.evdataWord)) = _
  rw [hword, hpop]
  rfl

/-- An EVDATA read where no event is readable returns 0 and removes nothing (R112). -/
theorem exec_rdEvdata_of_not_readable {s : State} (h : s.evRdy = false ∨ s.evbuf = []) :
    exec .rdEvdata s = .next { s.silentTick Config.hw with hrdata := some 0 } := by
  have hword : s.evdataWord = 0 := by
    rcases h with h | h <;> simp [State.evdataWord, h]
  have hpop (w : State) : s.popEvent w = w := by
    rcases h with h | h <;> simp [State.popEvent, h]
  show Host.Outcome.next ((s.popEvent (s.phaseStep Config.hw s.sample)).endTick
    (some s.evdataWord)) = _
  rw [hword, hpop]
  rfl

/-- Settles O29: whether an event is readable, and then by the kind of the head event. -/
theorem evdataReadPopsHead : Obligations.EvdataReadPopsHead := by
  refine ⟨fun s e rest hrdy hbuf => ?_, fun s h => exec_rdEvdata_of_not_readable h⟩
  rw [exec_rdEvdata_of_readable hrdy hbuf]
  cases e with
  | frame | lineBreak => rfl
  | bit b => rw [Event.word_bit]; rfl
  | byte v => rw [Event.word_byte]
  | raw d => rw [Event.word_raw]

end Sys2Proof.Machine
end

section
/-!
PROOF. The register that a host address selects (spec/20_memory.md R51, R52), the drain of the event
buffer by EVDATA reads (R64, spec/42_receive.md R186), and what a host access does to a running operation
(R61, spec/41_transmit.md R144, spec/60_exceptions.md R203).
-/

namespace Sys2Proof

/-! ### Addresses -/

/-- The number of the register at a host address, by R51's table (R51, R52). -/
theorem toNat_div_four_eq_index (h : BitVec 5) : h.toNat / 4 = (decodeReg h).index.toNat := by
  rw [decodeReg_index, toNat_slice]
  omega

/-- `haddr[1:0]` plays no part in the choice of the register, `haddr[4:2]` all of it (R51, R52). -/
theorem decodeReg_eq_iff (h h' : BitVec 5) :
    decodeReg h = decodeReg h' ↔ h.extractLsb' 2 3 = h'.extractLsb' 2 3 := by
  refine ⟨fun e => ?_, fun e => by rw [decodeReg, decodeReg, e]⟩
  rw [← decodeReg_index, ← decodeReg_index, e]

@[simp] theorem decodeAccess_write (h : BitVec 5) (v : Word) :
    decodeAccess ⟨h, true, v⟩ = (decodeReg h).write v := rfl

@[simp] theorem decodeAccess_read (h : BitVec 5) (v : Word) :
    decodeAccess ⟨h, false, v⟩ = (decodeReg h).read := rfl

/-- Settles O9: the address's number is the index of the register it selects, so each table is one over
the eight registers. -/
theorem addressSelectsRegister : Obligations.AddressSelectsRegister := by
  refine ⟨decodeReg_eq_iff, fun h => ?_, fun h v => ?_, fun h v => ?_, by decide⟩
  · rw [toNat_div_four_eq_index]
    cases decodeReg h <;> rfl
  · rw [toNat_div_four_eq_index, decodeAccess_write]
    cases decodeReg h <;> rfl
  · rw [toNat_div_four_eq_index, decodeAccess_read]
    cases decodeReg h <;> rfl

namespace Machine

/-! ### The drain -/

/-- One read of a row of EVDATA reads. -/
theorem readEvents_succ {s t : State} (n : Nat) (h : exec .rdEvdata s = .next t) :
    readEvents (n + 1) s = t.hrdata.getD 0 :: readEvents n t := by
  simp only [readEvents, h]

/-- EVDATA reads of an empty buffer on an idle block return 0 (R112). -/
theorem readEvents_of_empty (k : Nat) {s : State} (hp : s.phase = .idle) (hbuf : s.evbuf = []) :
    readEvents k s = List.replicate k 0 := by
  induction k generalizing s with
  | zero => rfl
  | succ k ih =>
    rw [readEvents_succ k (exec_rdEvdata_of_not_readable (.inr hbuf)), s.silentTick_idle _ hp,
      List.replicate_succ]
    exact congrArg (0 :: ·) (ih hp hbuf)

/-- EVDATA reads on an idle block return the events of a readable buffer, the head first, then 0
(R64). -/
theorem readEvents_of_readable (events : List Event) (k : Nat) {s : State} (hp : s.phase = .idle)
    (hrdy : s.evRdy = true) (hbuf : s.evbuf = events) :
    readEvents (events.length + k) s = events.map Event.word ++ List.replicate k 0 := by
  induction events generalizing s with
  | nil => simpa using readEvents_of_empty k hp hbuf
  | cons e rest ih =>
    rw [List.length_cons, Nat.add_right_comm,
      readEvents_succ _ (exec_rdEvdata_of_readable hrdy hbuf), s.silentTick_idle _ hp]
    exact congrArg (e.word :: ·) (ih hp hrdy rfl)

/-- Settles O30, by induction on the events in the buffer. -/
theorem drainReturnsEventsInOrder : Obligations.DrainReturnsEventsInOrder :=
  fun s k hp hrdy => readEvents_of_readable s.evbuf k hp hrdy rfl

/-! ### Accesses during an operation -/

/-- A command word issued to a busy block is rejected as BUSY, whatever it spells (R201, R203). -/
theorem issueTick_of_busy {s : State} (hbusy : s.phase ≠ .idle) (cw : CommandWord)
    (accept : State → State) :
    s.issueTick Config.hw cw accept = s.rejected (cw.extractLsb' 32 32) .busy := by
  have hcause : checkCommand Config.hw cw s = .busy := if_pos hbusy
  rcases s.issueTick_cases Config.hw cw accept with ⟨hnone, -⟩ | ⟨-, e⟩
  · rw [hcause] at hnone
    cases hnone
  · rw [e, hcause]
    rfl

/-- On a busy block an EVDATA read is the only access that the event buffer can tell from a tick without
one (R112, R203). -/
theorem exec_evbuf_of_busy {s t : State} {i : Instr} (hbusy : s.phase ≠ .idle) (hi : i ≠ .rdEvdata)
    (h : exec i s = .next t) : t.evbuf = (s.silentTick Config.hw).evbuf := by
  cases i with
  | rdEvdata => exact absurd rfl hi
  | nop | init | send | monitor | wrCmdHi =>
    rw [← Host.Outcome.next.inj h, issueTick_of_busy hbusy]
    rfl
  | _ =>
    rw [← Host.Outcome.next.inj h]
    rfl

/-- The event buffer after a tick of an operation: an EVDATA read takes the head out of a readable one
(R112). -/
theorem step_evbuf_of_busy {s t : State} (hbusy : s.phase ≠ .idle) (hn : s.NotReset)
    (hstep : step s = .next t) :
    t.evbuf =
      if s.fetch = .run .rdEvdata ∧ s.evRdy = true ∧ s.evbuf ≠ [] then s.evbuf.tail
      else (s.silentTick Config.hw).evbuf := by
  cases hf : s.fetch with
  | reset a => exact absurd hf (hn a)
  | silent =>
    rw [step_of_silent hf] at hstep
    cases hstep
    simp
  | run i =>
    rw [step_of_run hf] at hstep
    by_cases hi : i = .rdEvdata
    · subst hi
      by_cases hread : s.evRdy = true ∧ s.evbuf ≠ []
      · obtain ⟨hrdy, hne⟩ := hread
        obtain ⟨e, rest, hbuf⟩ := List.exists_cons_of_ne_nil hne
        rw [exec_rdEvdata_of_readable hrdy hbuf] at hstep
        cases hstep
        simp [hrdy, hbuf]
      · rw [exec_rdEvdata_of_not_readable (by simpa [or_iff_not_imp_left] using hread)] at hstep
        cases hstep
        simp [hread]
    · simpa [hi] using exec_evbuf_of_busy hbusy hi hstep

/-- What a tick of an operation leaves is the tick without an access, but for the command registers, the
report and the event buffer: no command is accepted (R144, R203). -/
theorem State.TickResult.eq_phaseStep_of_busy {s w : State} (hr : s.TickResult w)
    (hbusy : s.phase ≠ .idle) :
    w = { s.phaseStep Config.hw s.sample with
      cmdLo := w.cmdLo, cmdHi := w.cmdHi, rej := w.rej, rcause := w.rcause, evbuf := w.evbuf } := by
  cases hr with
  | passed => rfl
  | nop _ _ hp | init _ _ _ hp | send _ _ _ _ _ _ _ _ hp | monitor _ _ _ _ _ _ hp =>
    exact absurd hp hbusy

/-- Settles O41: the form of a tick that accepts no command, the event buffer by the access, and the
phase step of a SEND, which leaves the buffer. -/
theorem accessNeverDisturbsOperation : Obligations.AccessNeverDisturbsOperation := by
  intro s t hbusy hn hstep
  refine ⟨?_, step_evbuf_of_busy hbusy hn hstep, fun hp => ?_⟩
  · obtain ⟨w, rd, hr, rfl⟩ := step_cases_of_notReset hn hstep
    exact congrArg (State.endTick rd) (hr.eq_phaseStep_of_busy hbusy)
  · obtain ⟨-, -, -, -, -, hbuf, -⟩ := State.phaseStep_receive_frame Config.hw s s.sample hp
    exact hbuf

end Machine
end Sys2Proof
end

section
/-!
PROOF. The round trips of the two host encodings (spec/30_encoding.md R70 to R79,
spec/20_memory.md R51) and of the event words (R86, R87), the length of a frame (R84), and the words
written out by the spec (R92).
-/

namespace Sys2Proof

/-! ### The command words that decode, format by format -/

section
variable {c : Config} {cw : CommandWord} {i : Instr}

/-- A test that the decoder makes before the rest of its work. -/
theorem guard_eq_ok_iff {ε α : Type} {p : Prop} [Decidable p] {e : ε} {x : Except ε α} {a : α} :
    (if p then .error e else x) = .ok a ↔ ¬p ∧ x = .ok a := by
  by_cases h : p <;> simp [h]

theorem opReserved_of_decodeCommand (h : decodeCommand c cw = .ok i) : opReserved c cw = false := by
  rw [decodeCommand, guard_eq_ok_iff] at h
  exact Bool.eq_false_of_not_eq_true h.1

/-- The NOP word has no operand (R72). -/
theorem decodeCommand_nop_iff (hop : opField cw = 0#4) :
    decodeCommand c cw = .ok i ↔ cw.extractLsb' 4 60 = 0#60 ∧ .nop = i := by
  simp only [decodeCommand, guard_eq_ok_iff]
  simp [opReserved, reservedBitSet, modeIllegal, hop]

/-- An INIT word keeps its PIN byte within PINW bits (R73). -/
theorem decodeCommand_init_iff (hop : opField cw = 1#4) :
    decodeCommand c cw = .ok i ↔ cw.extractLsb' 16 48 = 0#48 ∧ (pinField cw).toNat < 2 ^ c.pinw ∧
      cw.extractLsb' 4 4 = 0#4 ∧ .init (pinField cw) = i := by
  simp [decodeCommand, guard_eq_ok_iff, opReserved, reservedBitSet, modeIllegal, hop,
    ← pin_in_range_iff, and_assoc]

/-- A SEND word may hold any operands (R74). -/
theorem decodeCommand_send_iff (hop : opField cw = 2#4) :
    decodeCommand c cw = .ok i ↔ cw.extractLsb' 48 16 = 0#16 ∧ cw.extractLsb' 6 10 = 0#10 ∧
      .send (p2Field cw) (p3Field cw) (devField cw) (c1Field cw) (c2Field cw) (c3Field cw) = i := by
  simp [decodeCommand, guard_eq_ok_iff, opReserved, reservedBitSet, modeIllegal, hop, and_assoc]

/-- A MONITOR word needs the monitor and a mode other than 3 (R71, R75, R79). -/
theorem decodeCommand_monitor_iff (hop : opField cw = 3#4) :
    decodeCommand c cw = .ok i ↔ c.hasMonitor = true ∧ cw.getLsbD 7 = false ∧
      modeField cw ≠ 3#2 ∧
      .monitor (modeField cw) (miField cw) (timeoutField cw) (rateField cw) = i := by
  simp [decodeCommand, guard_eq_ok_iff, opReserved, reservedBitSet, modeIllegal, hop]

end

/-! ### Decoding what was encoded -/

theorem decodeCommand_encodeNop (c : Config) : decodeCommand c encodeNop = .ok .nop :=
  (decodeCommand_nop_iff (by decide)).2 ⟨by decide, rfl⟩

theorem decodeCommand_encodeInit {c : Config} {pin : Byte} (h : pin.toNat < 2 ^ c.pinw) :
    decodeCommand c (encodeInit pin) = .ok (.init pin) :=
  (decodeCommand_init_iff (opField_encodeInit pin)).2 (by simpa using h)

theorem decodeCommand_encodeSend (c : Config) (p2 p3 : Bool) (dev c1 c2 c3 : Byte) :
    decodeCommand c (encodeSend p2 p3 dev c1 c2 c3) = .ok (.send p2 p3 dev c1 c2 c3) :=
  (decodeCommand_send_iff (opField_encodeSend ..)).2 (by simp)

theorem decodeCommand_encodeMonitor {c : Config} {mode : BitVec 2} (hmon : c.hasMonitor = true)
    (hmode : mode ≠ 3#2) (mi : Bool) (timeout : Word) (rate : BitVec 24) :
    decodeCommand c (encodeMonitor mode mi timeout rate) = .ok (.monitor mode mi timeout rate) :=
  (decodeCommand_monitor_iff (opField_encodeMonitor ..)).2
    ⟨hmon, encodeMonitor_bit7 .., by simpa using hmode, by simp⟩

@[simp] theorem decodeAccess_writeAccess (r : Reg) (v : Word) :
    decodeAccess (writeAccess r v) = r.write v := by
  simp [writeAccess]

@[simp] theorem decodeAccess_readAccess (r : Reg) : decodeAccess (readAccess r) = r.read := by
  simp [readAccess]

/-! ### Encoding what was decoded -/

/-- A bit of a word as arithmetic. -/
theorem toNat_getLsbD {n : Nat} (x : BitVec n) (k : Nat) :
    (x.getLsbD k).toNat = x.toNat / 2 ^ k % 2 := by
  rw [BitVec.getLsbD, Nat.toNat_testBit]

section
variable {cw : CommandWord}

theorem encodeNop_eq_of_fields (hop : opField cw = 0#4) (hrsvd : cw.extractLsb' 4 60 = 0#60) :
    encodeNop = cw := by
  apply BitVec.eq_of_toNat_eq
  simp only [opField, ← BitVec.toNat_inj, toNat_slice, BitVec.toNat_ofNat] at hop hrsvd
  rw [toNat_encodeNop]
  omega

theorem encodeInit_eq_of_fields (hop : opField cw = 1#4) (hhigh : cw.extractLsb' 16 48 = 0#48)
    (hlow : cw.extractLsb' 4 4 = 0#4) : encodeInit (pinField cw) = cw := by
  apply BitVec.eq_of_toNat_eq
  simp only [opField, ← BitVec.toNat_inj, toNat_slice, BitVec.toNat_ofNat] at hop hhigh hlow
  simp only [toNat_encodeInit, pinField, toNat_slice]
  omega

theorem encodeSend_eq_of_fields (hop : opField cw = 2#4) (hhigh : cw.extractLsb' 48 16 = 0#16)
    (hlow : cw.extractLsb' 6 10 = 0#10) :
    encodeSend (p2Field cw) (p3Field cw) (devField cw) (c1Field cw) (c2Field cw) (c3Field cw) =
      cw := by
  apply BitVec.eq_of_toNat_eq
  simp only [opField, ← BitVec.toNat_inj, toNat_slice, BitVec.toNat_ofNat] at hop hhigh hlow
  simp only [toNat_encodeSend, p2Field, p3Field, devField, c1Field, c2Field, c3Field, toNat_slice,
    toNat_getLsbD]
  omega

theorem encodeMonitor_eq_of_fields (hop : opField cw = 3#4) (hbit : cw.getLsbD 7 = false) :
    encodeMonitor (modeField cw) (miField cw) (timeoutField cw) (rateField cw) = cw := by
  apply BitVec.eq_of_toNat_eq
  have hbit := congrArg Bool.toNat hbit
  rw [toNat_getLsbD, Bool.toNat_false] at hbit
  simp only [opField, ← BitVec.toNat_inj, toNat_slice, BitVec.toNat_ofNat] at hop
  simp only [toNat_encodeMonitor, modeField, miField, timeoutField, rateField, toNat_slice,
    toNat_getLsbD]
  omega

end

namespace Machine

/-- Settles O7: each command word by its format's rule, each access by the register it addresses. -/
theorem decodeEncodeAgree : Obligations.DecodeEncodeAgree := by
  intro c i hwf
  cases i with
  | nop => exact decodeCommand_encodeNop c
  | init pin => exact decodeCommand_encodeInit (of_decide_eq_true hwf)
  | send p2 p3 dev c1 c2 c3 => exact decodeCommand_encodeSend c p2 p3 dev c1 c2 c3
  | monitor mode mi timeout rate =>
    obtain ⟨hmon, hmode⟩ : c.hasMonitor = true ∧ mode ≠ 3#2 := by simpa [Instr.wf] using hwf
    exact decodeCommand_encodeMonitor hmon hmode mi timeout rate
  | wrCmdLo v | wrCmdHi v | wrStatus v | wrPin v | wrDiagRate v | wrEvcount v | wrEvdata v
  | wrMonState v => exact congrArg Except.ok (decodeAccess_writeAccess _ v)
  | rdCmdLo | rdCmdHi | rdStatus | rdPin | rdDiagRate | rdEvcount | rdEvdata | rdMonState =>
    exact congrArg Except.ok (decodeAccess_readAccess _)

/-- Settles O8: by OP, whose format fixes every bit of the word that is not an operand. -/
theorem encodeDecodeAgree : Obligations.EncodeDecodeAgree := by
  intro c cw i h
  rcases opField_cases (opReserved_of_decodeCommand h) with hop | hop | hop | hop
  · obtain ⟨hrsvd, rfl⟩ := (decodeCommand_nop_iff hop).1 h
    exact ⟨congrArg HostWord.command (encodeNop_eq_of_fields hop hrsvd), rfl⟩
  · obtain ⟨hhigh, hpin, hlow, rfl⟩ := (decodeCommand_init_iff hop).1 h
    exact ⟨congrArg HostWord.command (encodeInit_eq_of_fields hop hhigh hlow), decide_eq_true hpin⟩
  · obtain ⟨hhigh, hlow, rfl⟩ := (decodeCommand_send_iff hop).1 h
    exact ⟨congrArg HostWord.command (encodeSend_eq_of_fields hop hhigh hlow), rfl⟩
  · obtain ⟨hmon, hbit, hmode, rfl⟩ := (decodeCommand_monitor_iff hop).1 h
    exact ⟨congrArg HostWord.command (encodeMonitor_eq_of_fields hop hbit),
      by simp [Instr.wf, hmon, hmode]⟩

/-! ### Event words -/

namespace Event

variable (e : Event)

/-- The word of an event as a sum of its fields (R86). -/
theorem toNat_word : e.word.toNat = 2 ^ 31 + 2 ^ 28 * e.kind.toNat + e.payload.toNat := by
  show BitVec.toNat (w := 1 + 3 + 12 + 16) (1#1 ++ e.kind ++ 0#12 ++ e.payload) = _
  simp only [toNat_concat, BitVec.toNat_ofNat]
  omega

/-- VALID of an event's word (R86). -/
@[simp] theorem word_valid : e.word.getLsbD 31 = true := by
  have := e.kind.isLt; have := e.payload.isLt
  rw [getLsbD_eq_decide, toNat_word, decide_eq_true_eq]
  omega

@[simp] theorem word_kind : e.word.extractLsb' 28 3 = e.kind := by
  apply BitVec.eq_of_toNat_eq
  have := e.kind.isLt; have := e.payload.isLt
  rw [toNat_slice, toNat_word]
  omega

@[simp] theorem word_reserved : e.word.extractLsb' 16 12 = 0#12 := by
  apply BitVec.eq_of_toNat_eq
  have := e.kind.isLt; have := e.payload.isLt
  rw [toNat_slice, toNat_word, BitVec.toNat_ofNat]
  omega

@[simp] theorem word_payload : e.word.extractLsb' 0 16 = e.payload := by
  apply BitVec.eq_of_toNat_eq
  have := e.kind.isLt; have := e.payload.isLt
  rw [toNat_slice, toNat_word]
  omega

theorem payload_bit (b : Bool) : (Event.bit b).payload = if b then 1 else 0 := by
  cases b <;> rfl

theorem payload_byte (v : Byte) : (Event.byte v).payload = v.setWidth 16 :=
  (BitVec.setWidth_eq_append (by decide)).symm

/-- KIND names the constructor, and the payload's low bits hold its argument (R86, R87). -/
theorem eventOfWord_word : eventOfWord e.word = some e := by
  cases e with
  | frame | lineBreak => rfl
  | bit b => cases b <;> rfl
  | byte v =>
    have hbyte : (Event.byte v).word.extractLsb' 0 8 = v := by
      rw [word_byte]
      exact BitVec.extractLsb'_append_eq_right
    simp [eventOfWord, hbyte, kind]
  | raw d => simp [eventOfWord, kind, payload]

end Event

/-- Settles O12: the fields of the word, and the number and payload of each kind. -/
theorem eventWordsRoundTrip : Obligations.EventWordsRoundTrip := by
  intro e
  refine ⟨e.eventOfWord_word, e.word_valid, e.word_reserved, e.word_kind.trans ?_,
    e.word_payload.trans ?_⟩
  · cases e <;> rfl
  · cases e with
    | frame | lineBreak | raw d => rfl
    | bit b => exact Event.payload_bit b
    | byte v => exact Event.payload_byte v

/-! ### Frame length -/

@[simp] theorem length_bitsMsbFirst (v : Byte) : (bitsMsbFirst v).length = 8 := rfl

theorem length_flatMap_bitsMsbFirst (bytes : List Byte) :
    (bytes.flatMap bitsMsbFirst).length = 8 * bytes.length := by
  simp [List.length_flatMap, Nat.mul_comm]

/-- The sync mark and its delimiter, then each bit's mark and its delimiter (R84). -/
theorem frameLen_eq_sum (c : Config) (bytes : List Byte) :
    frameLen c bytes = c.tSync + c.tDelim +
      ((bytes.flatMap bitsMsbFirst).map fun b => markLen c b + c.tDelim).sum := by
  simp [frameLen, frameMarks, Function.comp_def]

/-- Each bit takes the time of a 0, and a 1 the difference of the two marks more (R84, R136). -/
theorem sum_marks (c : Config) (bits : List Bool) :
    ((bits.map fun b => markLen c b + c.tDelim).sum : Int) =
      bits.length * ((c.tZero : Int) + c.tDelim) +
        bits.count true * ((c.tOne : Int) - c.tZero) := by
  induction bits with
  | nil => simp
  | cons b bits ih =>
    rw [List.map_cons, List.sum_cons, Nat.cast_add, ih]
    cases b <;> simp [markLen] <;> ring

/-- The closed form of R84. -/
theorem frameLen_closed (c : Config) (bytes : List Byte) :
    (frameLen c bytes : Int) = c.tSync + c.tDelim + 8 * bytes.length * (c.tZero + c.tDelim) +
      (bytes.flatMap bitsMsbFirst).count true * ((c.tOne : Int) - c.tZero) := by
  rw [frameLen_eq_sum, Nat.cast_add, sum_marks, length_flatMap_bitsMsbFirst]
  push_cast
  ring

/-- R84's numbers for the defaults of R7. -/
theorem frameLen_hw (bytes : List Byte) :
    frameLen Config.hw bytes =
      3000 + 9600 * bytes.length + 600 * (bytes.flatMap bitsMsbFirst).count true := by
  have h := frameLen_closed Config.hw bytes
  simp only [Config.hw_tSync, Config.hw_tOne, Config.hw_tZero, Config.hw_tDelim] at h
  omega

/-- R84's range, by how many of the `8 * n` bits can be 1. -/
theorem frameLen_hw_bounds {bytes : List Byte} (hmin : 2 ≤ bytes.length) (hmax : bytes.length ≤ 4) :
    22200 ≤ frameLen Config.hw bytes ∧ frameLen Config.hw bytes ≤ 60600 := by
  have hones : (bytes.flatMap bitsMsbFirst).count true ≤ 8 * bytes.length :=
    List.count_le_length.trans_eq (length_flatMap_bitsMsbFirst bytes)
  rw [frameLen_hw]
  omega

/-- Settles O37: the two forms of the sum, the defaults, and the two ends of the range. -/
theorem frameLengthFormula : Obligations.FrameLengthFormula :=
  ⟨fun c bytes => ⟨frameLen_eq_sum c bytes, frameLen_closed c bytes⟩, frameLen_hw,
    fun _ hmin hmax => frameLen_hw_bounds hmin hmax, frameLen_hw [0, 0],
    frameLen_hw [0xFF, 0xFF, 0xFF, 0xFF]⟩

/-! ### Words written out by the spec -/

/-- Settles O10: closed assembler lines, by evaluation. -/
theorem workedEncodings : Obligations.WorkedEncodings := by
  unfold Obligations.WorkedEncodings
  decide

/-- Settles O11: closed words, by evaluation. -/
theorem specWordsDecode : Obligations.SpecWordsDecode := by
  unfold Obligations.SpecWordsDecode
  decide

end Machine
end Sys2Proof
end

section
/-!
PROOF. What an accepted command word does (spec/40_commands.md R100 to R104), the register writes and
reads that have no effect of their own (R105 to R111, R114) with the fields of STATUS
(spec/10_state.md R39), and the idle tick (R120).
-/

namespace Sys2Proof.Machine

/-! ### The words that CheckCommand accepts -/

section
variable {c : Config} {cw : CommandWord} {i : Instr}

/-- A word that spells a command passes each test on the word alone (R76 to R79). -/
theorem tests_pass_of_decodeCommand (h : decodeCommand c cw = .ok i) :
    opReserved c cw = false ∧ reservedBitSet c cw = false ∧ modeIllegal cw = false := by
  simp only [decodeCommand, guard_eq_ok_iff, Bool.not_eq_true] at h
  obtain ⟨hop, hrsvd, hmode, -⟩ := h
  exact ⟨hop, hrsvd, hmode⟩

/-- On an idle block a word that spells a command is accepted, a SEND or a MONITOR if the block is
bound (R201). -/
theorem checkCommand_of_decodeCommand {s : State} (h : decodeCommand c cw = .ok i)
    (hp : s.phase = .idle) (hbound : opField cw = 2#4 ∨ opField cw = 3#4 → s.bound = true) :
    checkCommand c cw s = .none := by
  obtain ⟨hop, hrsvd, hmode⟩ := tests_pass_of_decodeCommand h
  rcases checkCommand_cases c cw s with ⟨hbusy, -⟩ | ⟨-, hop', -⟩ | ⟨-, -, hrsvd', -⟩ |
    ⟨-, -, -, hmode', -⟩ | ⟨-, -, -, -, hcmd, hunbound, -⟩ | ⟨-, -, -, -, -, e⟩
  · exact absurd hp hbusy
  · cases hop.symm.trans hop'
  · cases hrsvd.symm.trans hrsvd'
  · cases hmode.symm.trans hmode'
  · cases (hbound hcmd).symm.trans hunbound
  · exact e

end

/-! ### The effect of an accepted operation -/

/-- What an operation does once its word is accepted (R101 to R104). No command word spells a register
access, which does nothing here. -/
def State.acceptInstr (i : Instr) (s : State) : State :=
  match i with
  | .init pin => s.acceptInit pin
  | .send p2 p3 dev c1 c2 c3 => s.acceptSend p2 p3 dev c1 c2 c3
  | .monitor mode mi timeout rate => s.acceptMonitor mode mi timeout rate
  | _ => s.acceptNop

theorem State.acceptCommand_of_decodeCommand {c : Config} {cw : CommandWord} {i : Instr}
    (h : decodeCommand c cw = .ok i) : State.acceptCommand c cw = State.acceptInstr i := by
  funext w
  rw [State.acceptCommand, h]
  cases i <;> rfl

/-- The effect of an operation does not touch the inputs that the end of a tick consumes. -/
theorem State.acceptInstr_endTick (s : State) (i : Instr) (rd : Option Word) :
    (s.acceptInstr i).endTick rd = (s.endTick rd).acceptInstr i := by
  cases i <;> rfl

section
variable (s : State) (i : Instr)

@[simp] theorem State.acceptInstr_cmdHi : (s.acceptInstr i).cmdHi = s.cmdHi := by cases i <;> rfl
@[simp] theorem State.acceptInstr_cmdLo : (s.acceptInstr i).cmdLo = s.cmdLo := by cases i <;> rfl
@[simp] theorem State.acceptInstr_rej : (s.acceptInstr i).rej = s.rej := by cases i <;> rfl
@[simp] theorem State.acceptInstr_rcause : (s.acceptInstr i).rcause = s.rcause := by
  cases i <;> rfl

/-- No operation unbinds the block. -/
theorem State.acceptInstr_bound {s : State} (h : s.bound = true) :
    (s.acceptInstr i).bound = true := by
  cases i with
  | init => rfl
  | _ => exact h

end

/-- A command word's operation is the issue of that word (R70, R100). -/
theorem exec_of_encode {i : Instr} {cw : CommandWord} (h : encode i = .command cw) (s : State) :
    exec i s = .next (s.issueTick Config.hw cw (State.acceptInstr i)) := by
  cases i with
  | nop | init | send | monitor =>
    cases h
    rfl
  | _ => cases h

/-- The tick that accepts a command word: the report is cleared, and the operation takes its effect
(R100). -/
theorem exec_of_accepted {s : State} {cw : CommandWord} {i : Instr}
    (h : decodeCommand Config.hw cw = .ok i) (hp : s.phase = .idle)
    (hbound : opField cw = 2#4 ∨ opField cw = 3#4 → s.bound = true) :
    exec i s = .next ((s.accepted (cw.extractLsb' 32 32)).acceptInstr i) := by
  obtain ⟨henc, -⟩ := encodeDecodeAgree _ _ _ h
  have hnone := checkCommand_of_decodeCommand h hp hbound
  rw [exec_of_encode henc]
  rcases s.issueTick_cases Config.hw cw (State.acceptInstr i) with ⟨-, e⟩ | ⟨hrej, -⟩
  · rw [e, State.phaseStep_idle _ _ _ hp, State.acceptInstr_endTick]
    rfl
  · exact absurd hnone hrej

/-- Settles O5: the word that decodes to an operation is the word that the operation issues. -/
theorem cmdHiWriteRunsCommandWord : Obligations.CmdHiWriteRunsCommandWord := by
  intro s v i h
  obtain ⟨henc, -⟩ := encodeDecodeAgree _ _ _ h
  rw [exec_of_encode henc, ← State.acceptCommand_of_decodeCommand h]
  rfl

/-! ### The four operations -/

/-- OP as the masked word (R77). -/
theorem and_15_eq_opField (cw : CommandWord) : cw &&& 0xF#64 = (opField cw).setWidth 64 := by
  apply BitVec.eq_of_toNat_eq
  rw [BitVec.toNat_and, BitVec.toNat_setWidth, opField, toNat_slice]
  have hmask : cw.toNat &&& (0xF#64).toNat = cw.toNat % 2 ^ 4 :=
    Nat.and_two_pow_sub_one_eq_mod cw.toNat 4
  rw [hmask]
  omega

/-- The phase that an accepted word leads to, by its OP: SEND and MONITOR start an operation (R101 to
R104). -/
theorem State.acceptInstr_phase {c : Config} {cw : CommandWord} {i : Instr} (s : State)
    (h : decodeCommand c cw = .ok i) :
    (s.acceptInstr i).phase =
      if cw &&& 0xF#64 = 2 then .lr else if cw &&& 0xF#64 = 3 then .mon else s.phase := by
  rw [and_15_eq_opField]
  rcases opField_cases (opReserved_of_decodeCommand h) with hop | hop | hop | hop
  · obtain ⟨-, rfl⟩ := (decodeCommand_nop_iff hop).1 h
    simp [hop, acceptInstr, acceptNop]
  · obtain ⟨-, -, -, rfl⟩ := (decodeCommand_init_iff hop).1 h
    simp [hop, acceptInstr]
  · obtain ⟨-, -, rfl⟩ := (decodeCommand_send_iff hop).1 h
    simp [hop, acceptInstr]
  · obtain ⟨-, -, -, rfl⟩ := (decodeCommand_monitor_iff hop).1 h
    simp [hop, acceptInstr]

/-- Settles O23: the operation keeps what the acceptance writes, and its OP tells the phase. -/
theorem cmdHiWriteAccepted : Obligations.CmdHiWriteAccepted := by
  intro s v i hp hbound h
  rw [cmdHiWriteRunsCommandWord s v i h, exec_of_accepted h hp fun _ => hbound, commandWord_hi]
  have hphase : (s.accepted v).phase = .idle := hp
  exact ⟨_, rfl, State.acceptInstr_cmdHi .., State.acceptInstr_cmdLo .., State.acceptInstr_rej ..,
    State.acceptInstr_rcause .., State.acceptInstr_bound _ hbound,
    hphase ▸ State.acceptInstr_phase _ h⟩

/-- Settles O18. -/
theorem nopClearsReport : Obligations.NopClearsReport := by
  intro s hp
  exact exec_of_accepted (decodeCommand_encodeNop _) hp (absurd · (by decide))

/-- Settles O19: every PIN byte is in range, as PINW = 8. -/
theorem initBindsPin : Obligations.InitBindsPin := by
  intro s p hp
  have hrange : p.toNat < 2 ^ Config.hw.pinw := p.isLt
  rw [exec_of_accepted (decodeCommand_encodeInit hrange) hp (by simp), encodeInit_cmdHi]
  rfl

/-- Settles O21: the latched bytes and their number by the two present-bits. -/
theorem sendLatchesFrame : Obligations.SendLatchesFrame := by
  intro s p2 p3 dev c1 c2 c3 hp hbound
  rw [exec_of_accepted (decodeCommand_encodeSend _ p2 p3 dev c1 c2 c3) hp fun _ => hbound,
    encodeSend_cmdHi]
  cases p2 <;> cases p3 <;> rfl

/-- Settles O22. -/
theorem monitorStartsCapture : Obligations.MonitorStartsCapture := by
  intro s m mi t r hp hbound hmode
  rw [exec_of_accepted (decodeCommand_encodeMonitor Config.hw_hasMonitor hmode mi t r) hp
    fun _ => hbound, encodeMonitor_cmdHi]
  simp only [State.acceptInstr, State.acceptMonitor, State.clearEvents, State.clearGap,
    State.clearByte, timeoutValue]

/-! ### Register writes -/

/-- Settles O24: the store follows the phase step, which is the one of the silent tick. -/
theorem cmdLoWriteStores : Obligations.CmdLoWriteStores := fun _ _ => rfl

/-- A write to a register other than CMD_LO and CMD_HI is ignored (R114). -/
theorem exec_write_of_readOnly (s : State) (v : Word) {r : Reg} (hlo : r ≠ .cmdLo)
    (hhi : r ≠ .cmdHi) : exec (r.write v) s = .next (s.silentTick Config.hw) := by
  cases r with
  | cmdLo => exact absurd rfl hlo
  | cmdHi => exact absurd rfl hhi
  | status | pin | diagRate | evcount | evdata | monState =>
    exact congrArg Host.Outcome.next (s.effectTick_ignore Config.hw v)

/-- Settles O25, register by register. -/
theorem readOnlyWritesIgnored : Obligations.ReadOnlyWritesIgnored := fun s v =>
  ⟨exec_write_of_readOnly s v (r := .status) nofun nofun,
    exec_write_of_readOnly s v (r := .pin) nofun nofun,
    exec_write_of_readOnly s v (r := .diagRate) nofun nofun,
    exec_write_of_readOnly s v (r := .evcount) nofun nofun,
    exec_write_of_readOnly s v (r := .evdata) nofun nofun,
    exec_write_of_readOnly s v (r := .monState) nofun nofun⟩

/-! ### Register reads -/

/-- A read of a register other than EVDATA returns its read data and has no side effect (R106 to R111,
R113). -/
theorem exec_read_of_ne_evdata (s : State) {r : Reg} (h : r ≠ .evdata) :
    exec r.read s =
      .next { s.silentTick Config.hw with hrdata := some (s.readData s.sample r) } := by
  cases r with
  | evdata => exact absurd rfl h
  | cmdLo | cmdHi | status | pin | diagRate | evcount | monState =>
    exact congrArg Host.Outcome.next (s.readTick_eq Config.hw _)

/-- Settles O26, register by register. -/
theorem plainReadsReturnFields : Obligations.PlainReadsReturnFields := fun s =>
  ⟨exec_read_of_ne_evdata s (r := .cmdLo) nofun, exec_read_of_ne_evdata s (r := .cmdHi) nofun,
    exec_read_of_ne_evdata s (r := .pin) nofun, exec_read_of_ne_evdata s (r := .diagRate) nofun,
    exec_read_of_ne_evdata s (r := .evcount) nofun⟩

/-- The STATUS word as a sum of its fields (R39). -/
theorem State.toNat_statusWord (line : Level) (s : State) :
    (s.statusWord line).toNat = s.busy.toNat + 2 * s.dir.toNat + 2 ^ 2 * s.lineOut.toNat +
      2 ^ 3 * s.bound.toNat + 2 ^ 4 * s.phase.code.toNat + 2 ^ 8 * s.rej.toNat +
      2 ^ 9 * s.rcause.code.toNat + 2 ^ 12 * s.lrto.toNat + 2 ^ 13 * s.padcut.toNat +
      2 ^ 14 * s.evRdy.toNat + 2 ^ 15 * s.evOvf.toNat + 2 ^ 16 * line.toNat := by
  show BitVec.toNat (w := 15 + 1 + 1 + 1 + 1 + 1 + 3 + 1 + 4 + 1 + 1 + 1 + 1)
    (0#15 ++ BitVec.ofBool line ++ BitVec.ofBool s.evOvf ++ BitVec.ofBool s.evRdy ++
      BitVec.ofBool s.padcut ++ BitVec.ofBool s.lrto ++ s.rcause.code ++ BitVec.ofBool s.rej ++
      s.phase.code ++ BitVec.ofBool s.bound ++ BitVec.ofBool s.lineOut ++ BitVec.ofBool s.dir ++
      BitVec.ofBool s.busy) = _
  simp only [toNat_concat, BitVec.toNat_ofBool, BitVec.toNat_ofNat]
  omega

/-- Each field of the STATUS word reads as the state's, or as the sample (R39). -/
theorem State.statusWord_fields (line : Level) (s : State) :
    (s.statusWord line).getLsbD 0 = s.busy ∧ (s.statusWord line).getLsbD 1 = s.dir ∧
      (s.statusWord line).getLsbD 2 = s.lineOut ∧ (s.statusWord line).getLsbD 3 = s.bound ∧
      (s.statusWord line).extractLsb' 4 4 = s.phase.code ∧
      (s.statusWord line).getLsbD 8 = s.rej ∧
      (s.statusWord line).extractLsb' 9 3 = s.rcause.code ∧
      (s.statusWord line).getLsbD 12 = s.lrto ∧ (s.statusWord line).getLsbD 13 = s.padcut ∧
      (s.statusWord line).getLsbD 14 = s.evRdy ∧ (s.statusWord line).getLsbD 15 = s.evOvf ∧
      (s.statusWord line).getLsbD 16 = line ∧ (s.statusWord line).extractLsb' 17 15 = 0#15 := by
  have hbusy := s.busy.toNat_lt
  have hdir := s.dir.toNat_lt
  have hout := s.lineOut.toNat_lt
  have hbound := s.bound.toNat_lt
  have hphase := s.phase.code.isLt
  have hrej := s.rej.toNat_lt
  have hcause := s.rcause.code.isLt
  have hlrto := s.lrto.toNat_lt
  have hpad := s.padcut.toNat_lt
  have hrdy := s.evRdy.toNat_lt
  have hovf := s.evOvf.toNat_lt
  have hline := line.toNat_lt
  simp only [← BitVec.toNat_inj, getLsbD_eq_decide, toNat_slice, BitVec.toNat_ofNat,
    s.toNat_statusWord]
  refine ⟨?_, ?_, ?_, ?_, by omega, ?_, by omega, ?_, ?_, ?_, ?_, ?_, by omega⟩
  all_goals exact decide_eq_one_of_toNat (by omega)

/-- Settles O27: the fields of the word, and the codes of the phase and the cause. -/
theorem statusReadReturnsFields : Obligations.StatusReadReturnsFields := by
  intro s
  obtain ⟨hbusy, hdir, hout, hbound, hphase, hrej, hcause, hrest⟩ := s.statusWord_fields s.sample
  refine ⟨s.statusWord s.sample, exec_read_of_ne_evdata s (r := .status) nofun, hbusy, hdir, hout,
    hbound, hphase.trans ?_, hrej, hcause.trans ?_, hrest⟩
  · cases s.phase <;> rfl
  · cases s.rcause <;> rfl

/-! ### The idle tick -/

/-- Settles O31. -/
theorem idleTickHolds : Obligations.IdleTickHolds := by
  intro s hp hsilent
  rw [step_of_silent hsilent, s.silentTick_idle _ hp]
  rfl

end Sys2Proof.Machine
end

section
/-!
PROOF. Runs of ticks (spec/10_state.md R22): how a run is put together from its parts, what is left of the
host's and the line's inputs within it, and the rule that a property kept by every tick until an exit holds
up to that exit.
-/

namespace Sys2Proof.Machine

variable {s t u : State} {j k m n : Nat}

/-! ### Runs -/

theorem runsTo_zero (s : State) : RunsTo 0 s s := core_run_zero s

theorem RunsTo.cons (h : step s = .next t) (hr : RunsTo k t u) : RunsTo (k + 1) s u :=
  (core_run_succ k s t h).trans hr

/-- A run of more than one tick is its first tick and the rest. -/
theorem RunsTo.exists_first (hr : RunsTo (k + 1) s u) : ∃ t, step s = .next t ∧ RunsTo k t u := by
  obtain ⟨t, e, -⟩ := everyStepAnswersNext s
  exact ⟨t, e, (core_run_succ k s t e).symm.trans hr⟩

theorem RunsTo.trans (hst : RunsTo j s t) (htu : RunsTo k t u) : RunsTo (j + k) s u := by
  induction j generalizing s with
  | zero =>
    cases hst
    simpa using htu
  | succ j ih =>
    obtain ⟨s', e, hr⟩ := hst.exists_first
    rw [Nat.add_right_comm]
    exact .cons e (ih hr)

theorem RunsTo.snoc (hst : RunsTo k s t) (h : step t = .next u) : RunsTo (k + 1) s u :=
  hst.trans (.cons h (runsTo_zero u))

/-! ### The inputs within a run -/

theorem NoReset.mono (h : NoReset n s) (hle : m ≤ n) : NoReset m s :=
  fun x hx => h x (List.mem_of_mem_take (by rwa [List.take_take, Nat.min_eq_left hle]))

theorem NoReset.notReset (h : NoReset n s) (hn : 0 < n) : s.NotReset := by
  intro a hf
  unfold State.fetch at hf
  split at hf
  · cases hf
  · rename_i x rest hin
    have hx : x ∈ s.hostIn.take n := by
      obtain ⟨n, rfl⟩ := Nat.exists_eq_succ_of_ne_zero hn.ne'
      simp [hin]
    simp only [fetchTick, h x hx, Bool.false_eq_true, if_false] at hf
    split at hf <;> cases hf

/-- One tick consumes one tick of the host's inputs. -/
theorem NoReset.step (h : NoReset (n + 1) s) (e : step s = .next t) : NoReset n t := by
  obtain ⟨t', e', -, -, hhost, -⟩ := everyStepAnswersNext s
  cases e'.symm.trans e
  intro x hx
  rw [hhost] at hx
  exact h x (by
    cases hin : s.hostIn with
    | nil => simp [hin] at hx
    | cons y rest => exact List.mem_cons_of_mem y (by simpa [hin] using hx))

theorem NoReset.runsTo (h : NoReset (m + n) s) (hr : RunsTo m s t) : NoReset n t := by
  induction m generalizing s with
  | zero =>
    cases hr
    simpa using h
  | succ m ih =>
    obtain ⟨s', e, hr'⟩ := hr.exists_first
    rw [Nat.add_right_comm] at h
    exact ih (h.step e) hr'

/-- A row of samples to come begins with the head of `lineIn`. -/
theorem LineReads.exists_lineIn {l : Level} {ls : List Level} (h : LineReads (l :: ls) s) :
    ∃ rest, s.lineIn = l :: rest ∧ rest.take ls.length = ls := by
  unfold LineReads at h
  cases hin : s.lineIn with
  | nil => simp [hin] at h
  | cons y rest =>
    rw [hin, List.length_cons, List.take_succ_cons] at h
    obtain ⟨rfl, hrest⟩ := List.cons.inj h
    exact ⟨rest, rfl, hrest⟩

theorem LineReads.sample {l : Level} {ls : List Level} (h : LineReads (l :: ls) s) : s.sample = l := by
  obtain ⟨rest, hin, -⟩ := h.exists_lineIn
  simp only [State.sample, hin]

/-- One tick consumes one sample of the line. -/
theorem LineReads.step {l : Level} {ls : List Level} (h : LineReads (l :: ls) s)
    (e : step s = .next t) : LineReads ls t := by
  obtain ⟨rest, hin, hrest⟩ := h.exists_lineIn
  obtain ⟨t', e', -, hline, -⟩ := everyStepAnswersNext s
  cases e'.symm.trans e
  rw [LineReads, hline, hin]
  exact hrest

/-! ### A property up to the end of a run -/

/-- A run of `n` ticks from `s` to `t` in which the state after `k` ticks, up to the last tick's, is one
of `P k`. -/
structure RunsThrough (P : Nat → State → Prop) (n : Nat) (s t : State) : Prop where
  runs : RunsTo n s t
  through : ∀ k < n, ∃ u, RunsTo k s u ∧ P k u

namespace RunsThrough

variable {P Q : Nat → State → Prop}

theorem refl (P : Nat → State → Prop) (s : State) : RunsThrough P 0 s s :=
  ⟨runsTo_zero s, fun _ hk => absurd hk (Nat.not_lt_zero _)⟩

theorem imp (h : RunsThrough P n s t) (hPQ : ∀ k < n, ∀ u, P k u → Q k u) : RunsThrough Q n s t :=
  ⟨h.runs, fun k hk => (h.through k hk).imp fun u ⟨hr, hu⟩ => ⟨hr, hPQ k hk u hu⟩⟩

theorem trans (hst : RunsThrough P m s t) (htu : RunsThrough (fun k => P (m + k)) n t u) :
    RunsThrough P (m + n) s u := by
  refine ⟨hst.runs.trans htu.runs, fun k hk => ?_⟩
  by_cases hkm : k < m
  · exact hst.through k hkm
  · obtain ⟨v, hr, hv⟩ := htu.through (k - m) (by omega)
    have e : m + (k - m) = k := Nat.add_sub_cancel' (Nat.le_of_not_lt hkm)
    simp only [e] at hv
    exact ⟨v, e ▸ hst.runs.trans hr, hv⟩

theorem cons (h0 : P 0 s) (e : step s = .next t) (htu : RunsThrough (fun k => P (k + 1)) n t u) :
    RunsThrough P (n + 1) s u := by
  refine ⟨.cons e htu.runs, fun k hk => ?_⟩
  cases k with
  | zero => exact ⟨s, runsTo_zero s, h0⟩
  | succ k =>
    obtain ⟨v, hr, hv⟩ := htu.through k (Nat.lt_of_succ_lt_succ hk)
    exact ⟨v, .cons e hr, hv⟩

/-- If `P` holds at first, fails by tick `N` at the latest, and is followed in every tick by `P` again or
by the exit `Q`, then a run within `N` ticks goes through `P` and reaches `Q`. -/
theorem exists_exit (N : Nat) (hn : NoReset N s) (h0 : P 0 s) (hbound : ∀ k u, P k u → k < N)
    (hstep : ∀ k u v, P k u → u.NotReset → step u = .next v → P (k + 1) v ∨ Q (k + 1) v) :
    ∃ k ≤ N, ∃ t, RunsThrough P k s t ∧ Q k t := by
  induction N generalizing s P Q with
  | zero => exact absurd (hbound 0 s h0) (Nat.lt_irrefl 0)
  | succ N ih =>
    obtain ⟨v, e, -⟩ := everyStepAnswersNext s
    rcases hstep 0 s v h0 (hn.notReset N.succ_pos) e with hv | hv
    · obtain ⟨k, hk, t, ht, hq⟩ := ih (P := fun k => P (k + 1)) (Q := fun k => Q (k + 1))
        (hn.step e) hv (fun k u h => Nat.lt_of_succ_lt_succ (hbound _ u h)) (fun k => hstep (k + 1))
      exact ⟨k + 1, Nat.succ_le_succ hk, t, .cons h0 e ht, hq⟩
    · exact ⟨1, Nat.succ_pos N, v, .cons h0 e (refl _ v), hv⟩

end RunsThrough
end Sys2Proof.Machine
end

section
/-!
PROOF. One tick of the transmit path (spec/41_transmit.md): the ticks of LR (R131, R132) and PAD (R140)
without an access, and the ticks of a frame, which do not read the line (R143).
-/

namespace Sys2Proof.Machine

/-! ### The ticks of the two waits -/

/-- Everything a tick of LR can do, its poll spelt out (R131). -/
theorem State.phaseStep_lr_cases (c : Config) (l : Level) {s : State} (hp : s.phase = .lr) :
    (s.poll + 1 ≠ c.tPoll ∧ s.phaseStep c l = s.countPoll c) ∨
      (s.poll + 1 = c.tPoll ∧ c.tLrIdle ≤ (s.polled c l).el - (s.polled c l).lrLastLow ∧
        s.phaseStep c l = (s.polled c l).startFrame) ∨
      (s.poll + 1 = c.tPoll ∧ (s.polled c l).el - (s.polled c l).lrLastLow < c.tLrIdle ∧
        c.tLrTimeout ≤ (s.polled c l).el ∧
        s.phaseStep c l = (s.polled c l).reportLineReadyTimeout.startFrame) ∨
      (s.poll + 1 = c.tPoll ∧ (s.polled c l).el - (s.polled c l).lrLastLow < c.tLrIdle ∧
        (s.polled c l).el < c.tLrTimeout ∧ s.phaseStep c l = s.polled c l) := by
  rw [State.phaseStep_lr c s l hp]
  rcases State.lrStep_cases c s l with ⟨hpoll, e⟩ | ⟨hpoll, e⟩
  · refine .inr ?_
    rw [e]
    rcases State.decidePoll_cases c (s.polled c l) with ⟨h, e⟩ | ⟨h, h', e⟩ | ⟨h, h', e⟩
    · exact .inl ⟨hpoll, h, e⟩
    · exact .inr (.inl ⟨hpoll, h, h', e⟩)
    · exact .inr (.inr ⟨hpoll, h, h', e⟩)
  · exact .inl ⟨hpoll, e⟩

/-- A tick without an access, by what its phase step leaves. -/
theorem step_of_silent_of_phaseStep {s w : State} (hsilent : s.fetch = .silent)
    (h : s.phaseStep Config.hw s.sample = w) : step s = .next (w.endTick none) := by
  rw [step_of_silent hsilent, State.silentTick_eq, h]

/-- Settles O32: by whether the tick is a poll, and then by how the poll ends. -/
theorem lineReadyTick : Obligations.LineReadyTick := by
  intro s hp hsilent el last base
  have hcases := State.phaseStep_lr_cases Config.hw s.sample hp
  have hwait : (s.polled Config.hw s.sample).el - (s.polled Config.hw s.sample).lrLastLow = el - last :=
    rfl
  have hel : (s.polled Config.hw s.sample).el = el := rfl
  rw [hwait, hel, Config.hw_tPoll, Config.hw_tLrIdle, Config.hw_tLrTimeout] at hcases
  rcases hcases with ⟨hpoll, e⟩ | ⟨hpoll, hidle, e⟩ | ⟨hpoll, hidle, hto, e⟩ | ⟨hpoll, hidle, hto, e⟩ <;>
    have hstep := step_of_silent_of_phaseStep hsilent e
  · rw [if_pos hpoll]
    exact hstep
  · rw [if_neg (not_not.mpr hpoll), if_pos hidle]
    exact hstep
  · rw [if_neg (not_not.mpr hpoll), if_neg hidle.not_ge, if_pos hto]
    exact hstep
  · rw [if_neg (not_not.mpr hpoll), if_neg hidle.not_ge, if_neg hto.not_ge]
    exact hstep

/-- How a padding poll ends (R140). -/
theorem State.decidePad_cases (c : Config) (s : State) (l : Level) :
    (l = false ∧ s.decidePad c l = { s.reportPadCut with poll := 0, phase := .idle }) ∨
      (l = true ∧ c.tFrame ≤ s.el ∧ s.decidePad c l = { s with poll := 0, phase := .idle }) ∨
      (l = true ∧ s.el < c.tFrame ∧ s.decidePad c l = { s with poll := 0 }) := by
  cases l with
  | false => exact .inl ⟨rfl, rfl⟩
  | true =>
    by_cases h : c.tFrame ≤ s.el
    · exact .inr (.inl ⟨rfl, h, if_pos h⟩)
    · exact .inr (.inr ⟨rfl, Nat.lt_of_not_le h, if_neg h⟩)

/-- Settles O33: by whether the tick is a poll, and then by the sample and the elapsed count. -/
theorem paddingTick : Obligations.PaddingTick := by
  intro s hp hsilent el base
  have hphase := State.phaseStep_pad Config.hw s s.sample hp
  rcases State.padStep_cases Config.hw s s.sample with ⟨hpoll, e⟩ | ⟨hpoll, e⟩ <;>
    rw [Config.hw_tPoll] at hpoll
  · have hcases := State.decidePad_cases Config.hw (s.countPoll Config.hw) s.sample
    have hel : (s.countPoll Config.hw).el = el := rfl
    rw [hel, Config.hw_tFrame] at hcases
    rcases hcases with ⟨hline, e'⟩ | ⟨hline, hframe, e'⟩ | ⟨hline, hframe, e'⟩ <;>
      have hstep := step_of_silent_of_phaseStep hsilent (hphase.trans (e.trans e')) <;>
      rw [if_neg (not_not.mpr hpoll), hline]
    · exact hstep
    · rw [if_neg Bool.noConfusion, if_pos hframe]
      exact hstep
    · rw [if_neg Bool.noConfusion, if_neg hframe.not_ge]
      exact hstep
  · rw [if_pos hpoll]
    exact step_of_silent_of_phaseStep hsilent (hphase.trans e)

end Sys2Proof.Machine
end

section
/-!
PROOF. What a tick of a running SEND reads and writes (spec/41_transmit.md R143, R144): the phase step of
a SEND commutes with any change of the fields that belong to the host, the monitor's buffer and the inputs;
and a driven frame's step is one count of its segment or the segment's end.
-/

namespace Sys2Proof.Machine

namespace State

variable (c : Config) (s o : State) (l : Level)

/-! ### The fields outside a SEND -/

/-- `s` with the fields that a running SEND neither reads nor writes taken from `o`: the command registers,
the report, the event buffer and the inputs of the coming ticks. -/
def withRest : State :=
  { s with
    cmdLo := o.cmdLo, cmdHi := o.cmdHi, rej := o.rej, rcause := o.rcause, evbuf := o.evbuf
    tick := o.tick, lineIn := o.lineIn, hostIn := o.hostIn, hrdata := o.hrdata }

theorem lrStep_withRest : (s.withRest o).lrStep c l = (s.lrStep c l).withRest o := by
  simp only [lrStep, decidePoll, apply_ite (withRest · o)]
  rfl

theorem syncLoStep_withRest : (s.withRest o).syncLoStep c = (s.syncLoStep c).withRest o := by
  simp only [syncLoStep, apply_ite (withRest · o)]
  rfl

theorem syncHiStep_withRest : (s.withRest o).syncHiStep c = (s.syncHiStep c).withRest o := by
  simp only [syncHiStep, apply_ite (withRest · o)]
  rfl

theorem bitLoStep_withRest : (s.withRest o).bitLoStep c = (s.bitLoStep c).withRest o := by
  simp only [bitLoStep, apply_ite (withRest · o)]
  rfl

theorem bitHiStep_withRest : (s.withRest o).bitHiStep c = (s.bitHiStep c).withRest o := by
  simp only [bitHiStep, nextSymbol, apply_ite (withRest · o)]
  rfl

theorem padStep_withRest : (s.withRest o).padStep c l = (s.padStep c l).withRest o := by
  simp only [padStep, decidePad, apply_ite (withRest · o)]
  rfl

/-- No phase step but MON's touches the fields outside a SEND, or depends on them. -/
theorem phaseStep_withRest (hmon : s.phase ≠ .mon) :
    (s.withRest o).phaseStep c l = (s.phaseStep c l).withRest o := by
  have hphase : (s.withRest o).phase = s.phase := rfl
  unfold phaseStep
  rw [hphase]
  cases hp : s.phase with
  | idle => rfl
  | lr => exact lrStep_withRest c s o l
  | syncLo => exact syncLoStep_withRest c s o
  | syncHi => exact syncHiStep_withRest c s o
  | bitLo => exact bitLoStep_withRest c s o
  | bitHi => exact bitHiStep_withRest c s o
  | pad => exact padStep_withRest c s o l
  | mon => exact absurd hp hmon

/-- The part of the state that a running SEND reads and writes, the rest put to its reset values. -/
def sendPart : State := s.withRest reset

/-- In a tick of a SEND the host's accesses leave the SEND's own part to the phase step (R144). -/
theorem sendPart_of_step {s t : State} (hbusy : s.phase ≠ .idle) (hmon : s.phase ≠ .mon)
    (hn : s.NotReset) (h : step s = .next t) :
    t.sendPart = s.sendPart.phaseStep Config.hw s.sample := by
  obtain ⟨w, rd, hr, rfl⟩ := step_cases_of_notReset hn h
  rw [sendPart, sendPart, phaseStep_withRest _ _ _ _ hmon, hr.eq_phaseStep_of_busy hbusy]
  rfl

/-! ### Segments -/

/-- The length of the mark or delimiter that is being driven (R134 to R138). -/
def segmentLen : Nat :=
  match s.phase with
  | .syncLo => c.tSync
  | .bitLo => markLen c s.frameBit
  | _ => c.tDelim

/-- What follows the last tick of the mark or delimiter that is being driven (R134 to R138). -/
def endSegment : State :=
  match s.phase with
  | .syncLo => s.endMark .syncHi
  | .syncHi => s.startBit 0 7
  | .bitLo => s.endMark .bitHi
  | .bitHi => s.nextSymbol c
  | _ => s

/-- A tick of a driven frame counts, and at the segment's end goes on to the next one; no sample is taken
(R134 to R138, R143). -/
theorem phaseStep_of_driving {s : State} (hd : s.phase.driving = true) :
    s.phaseStep c l =
      if s.seg + 1 = s.segmentLen c then (s.countSegment c).endSegment c else s.countSegment c := by
  cases hp : s.phase with
  | idle | lr | pad | mon => rw [hp] at hd; cases hd
  | syncLo =>
    simp only [phaseStep_syncLo c s l hp, syncLoStep, segmentLen, endSegment, countSegment_phase, hp]
  | syncHi =>
    simp only [phaseStep_syncHi c s l hp, syncHiStep, segmentLen, endSegment, countSegment_phase, hp]
  | bitLo =>
    simp only [phaseStep_bitLo c s l hp, bitLoStep, segmentLen, endSegment, countSegment_phase, hp]
  | bitHi =>
    simp only [phaseStep_bitHi c s l hp, bitHiStep, segmentLen, endSegment, countSegment_phase, hp]

theorem busy_of_driving {s : State} (hd : s.phase.driving = true) : s.phase ≠ .idle := by
  intro hp
  rw [hp] at hd
  cases hd

theorem ne_mon_of_driving {s : State} (hd : s.phase.driving = true) : s.phase ≠ .mon := by
  intro hp
  rw [hp] at hd
  cases hd

end State

/-! ### The line and a driven frame -/

namespace State

variable (s : State) (ls : List Level)

/-- `s` with other levels to come on the line. -/
def withLine : State := { s with lineIn := ls }

/-- A tick without an access of a driven frame does not depend on the line (R143). -/
theorem silentTick_withLine (hd : s.phase.driving = true) :
    (s.withLine ls).silentTick Config.hw = (s.silentTick Config.hw).withLine ls.tail := by
  have hsample : s.phaseStep Config.hw (s.withLine ls).sample = s.phaseStep Config.hw s.sample := by
    rw [phaseStep_of_driving _ _ hd, phaseStep_of_driving _ _ hd]
  have hstep : (s.withLine ls).phaseStep Config.hw (s.withLine ls).sample =
      (s.phaseStep Config.hw (s.withLine ls).sample).withRest (s.withLine ls) :=
    phaseStep_withRest Config.hw s (s.withLine ls) _ (ne_mon_of_driving hd)
  obtain ⟨-, -, -, -, -, hbuf, -⟩ :=
    phaseStep_receive_frame Config.hw s s.sample (ne_mon_of_driving hd)
  rw [silentTick_eq, hstep, hsample, silentTick_eq]
  simp [withRest, withLine, endTick, hbuf]

end State

variable {s : State}

theorem exec_wrCmdHi_of_busy (hbusy : s.phase ≠ .idle) (v : Word) :
    exec (.wrCmdHi v) s = .next (s.rejected v .busy) := by
  have h := issueTick_of_busy hbusy (commandWord v s.cmdLo)
    (State.acceptCommand Config.hw (commandWord v s.cmdLo))
  rw [commandWord_hi] at h
  exact congrArg Host.Outcome.next h

/-- A register write to a block that drives a frame does not depend on the line. -/
theorem exec_write_withLine (ls : List Level) (hd : s.phase.driving = true) (r : Reg) (v : Word) :
    ∃ t, exec (r.write v) s = .next t ∧
      exec (r.write v) (s.withLine ls) = .next (t.withLine ls.tail) := by
  have hsilent := s.silentTick_withLine ls hd
  by_cases hlo : r = .cmdLo
  · subst hlo
    refine ⟨_, cmdLoWriteStores s v, (cmdLoWriteStores (s.withLine ls) v).trans ?_⟩
    rw [hsilent]
    rfl
  by_cases hhi : r = .cmdHi
  · subst hhi
    have hbusy := State.busy_of_driving hd
    refine ⟨_, exec_wrCmdHi_of_busy hbusy v,
      (exec_wrCmdHi_of_busy (s := s.withLine ls) hbusy v).trans ?_⟩
    rw [State.rejected, hsilent]
    rfl
  · exact ⟨_, exec_write_of_readOnly s v hlo hhi,
      (exec_write_of_readOnly (s.withLine ls) v hlo hhi).trans (congrArg _ hsilent)⟩

/-- A register read but STATUS's of a block that drives a frame does not depend on the line. -/
theorem exec_read_withLine (ls : List Level) (hd : s.phase.driving = true) {r : Reg}
    (hr : r ≠ .status) :
    ∃ t, exec r.read s = .next t ∧ exec r.read (s.withLine ls) = .next (t.withLine ls.tail) := by
  have hsilent := s.silentTick_withLine ls hd
  by_cases hev : r = .evdata
  · subst hev
    by_cases hread : s.evRdy = true ∧ s.evbuf ≠ []
    · obtain ⟨hrdy, hne⟩ := hread
      obtain ⟨e, rest, hbuf⟩ := List.exists_cons_of_ne_nil hne
      refine ⟨_, exec_rdEvdata_of_readable hrdy hbuf,
        (exec_rdEvdata_of_readable (s := s.withLine ls) hrdy hbuf).trans ?_⟩
      rw [hsilent]
      rfl
    · have hread : s.evRdy = false ∨ s.evbuf = [] := by simpa [or_iff_not_imp_left] using hread
      refine ⟨_, exec_rdEvdata_of_not_readable hread,
        (exec_rdEvdata_of_not_readable (s := s.withLine ls) hread).trans ?_⟩
      rw [hsilent]
      rfl
  · have hdata : (s.withLine ls).readData (s.withLine ls).sample r = s.readData s.sample r := by
      cases r with
      | status => exact absurd rfl hr
      | cmdLo | cmdHi | pin | diagRate | evcount | evdata | monState => rfl
    refine ⟨_, exec_read_of_ne_evdata s hev, (exec_read_of_ne_evdata _ hev).trans ?_⟩
    rw [hsilent, hdata]
    rfl

/-- Settles O40: by the form of the tick and the access it holds. -/
theorem drivingIgnoresLine : Obligations.DrivingIgnoresLine := by
  intro s ls hd hne
  have hfetch : (s.withLine ls).fetch = s.fetch := rfl
  change ∃ t, step s = .next t ∧ step (s.withLine ls) = .next (t.withLine ls.tail)
  rw [step_eq, step_eq, hfetch]
  cases hf : s.fetch with
  | reset a => exact ⟨_, rfl, rfl⟩
  | silent => exact ⟨_, rfl, congrArg _ (s.silentTick_withLine ls hd)⟩
  | run i =>
    obtain ⟨r, ⟨v, rfl⟩ | rfl⟩ := State.fetch_run hf
    · exact exec_write_withLine ls hd r v
    · refine exec_read_withLine ls hd ?_
      rintro rfl
      exact hne hf

end Sys2Proof.Machine
end

section
/-!
PROOF. How long the line-ready check lasts (spec/41_transmit.md R131, R133).
-/

namespace Sys2Proof.Machine

namespace State

variable {s t : State}

/-- `k` ticks into a line-ready check that has not ended, whatever the line did (R131). -/
structure Waiting (k : Nat) (s : State) : Prop where
  phase : s.phase = .lr
  el : s.el = k
  poll : s.poll = k % 25
  last : s.lrLastLow ≤ k
  bound : k < 500000

/-- A line-ready check has ended at a poll after `k` ticks, and the sync mark begins (R132). -/
structure Anchored (k : Nat) (s : State) : Prop where
  phase : s.phase = .syncLo
  el : s.el = 0
  seg : s.seg = 0
  dir : s.dir = true
  low : s.lineOut = false
  poll : k % 25 = 0
  idle : 3000 ≤ k
  bound : k ≤ 500000

/-- A started frame is at its anchor (R132). -/
theorem anchored_of_startFrame {k : Nat} {w : State} (h : t.sendPart = w.startFrame)
    (hpoll : k % 25 = 0) (hidle : 3000 ≤ k) (hbound : k ≤ 500000) : t.Anchored k where
  phase := congrArg State.phase h
  el := congrArg State.el h
  seg := congrArg State.seg h
  dir := congrArg State.dir h
  low := congrArg State.lineOut h
  poll := hpoll
  idle := hidle
  bound := hbound

/-- The time of the last low poll after tick `k` of LR (R131). -/
def lastLowAfter (k : Nat) (s : State) : Nat :=
  if (k + 1) % 25 = 0 ∧ s.sample = false then k + 1 else s.lrLastLow

theorem lastLowAfter_le {k : Nat} (h : s.lrLastLow ≤ k) : s.lastLowAfter k ≤ k + 1 := by
  unfold lastLowAfter
  split <;> omega

/-- What a poll of LR that ends `k + 1` ticks decides on (R131). -/
theorem Waiting.polled {k : Nat} (hw : s.Waiting k) (hpoll : (k + 1) % 25 = 0) :
    (s.sendPart.polled Config.hw s.sample).el = k + 1 ∧
      (s.sendPart.polled Config.hw s.sample).lrLastLow = s.lastLowAfter k := by
  obtain ⟨-, hel, -, -, hbound⟩ := hw
  have hel' : (s.sendPart.polled Config.hw s.sample).el = k + 1 := by
    change saturate Config.hw (s.el + 1) = k + 1
    rw [saturate_hw]
    omega
  refine ⟨hel', ?_⟩
  change (if s.sample then s.lrLastLow else (s.sendPart.polled Config.hw s.sample).el) = _
  rw [hel', lastLowAfter]
  cases s.sample <;> simp [hpoll]

/-- Between two polls LR counts on (R131). -/
theorem Waiting.count {k : Nat} (hw : s.Waiting k) (hk : (k + 1) % 25 ≠ 0)
    (h : t.sendPart = s.sendPart.countPoll Config.hw) : t.Waiting (k + 1) := by
  obtain ⟨hp, hel, hpoll, hlast, hbound⟩ := hw
  have hphase : t.phase = s.phase := (congrArg State.phase h :)
  have helt : t.el = min (s.el + 1) 4294967295 := (congrArg State.el h :)
  have hpollt : t.poll = s.poll + 1 := (congrArg State.poll h :)
  have hlastt : t.lrLastLow = s.lrLastLow := (congrArg State.lrLastLow h :)
  exact ⟨hphase.trans hp, by omega, by omega, by omega, by omega⟩

/-- Each tick of LR waits on, unless it is a poll that has seen the line high for 3000 ticks or that comes
at the timeout; then the frame starts, and only the timeout is reported (R131). -/
theorem Waiting.step {k : Nat} (hw : s.Waiting k) (hn : s.NotReset) (h : step s = .next t) :
    (t.Waiting (k + 1) ∧ t.lrLastLow = s.lastLowAfter k ∧ t.lrto = s.lrto ∧
        ((k + 1) % 25 = 0 → k + 1 - s.lastLowAfter k < 3000)) ∨
      (t.Anchored (k + 1) ∧ (k + 1 - s.lastLowAfter k < 3000 ∨ t.lrto = s.lrto)) := by
  have hle := lastLowAfter_le hw.last
  have hbound := hw.bound
  have hpart := sendPart_of_step (by simp [hw.phase]) (by simp [hw.phase]) hn h
  have hcases := phaseStep_lr_cases Config.hw s.sample (s := s.sendPart) hw.phase
  have hcount : s.sendPart.poll + 1 = k % 25 + 1 := congrArg (· + 1) hw.poll
  simp only [hcount, Config.hw_tPoll, Config.hw_tLrIdle, Config.hw_tLrTimeout] at hcases
  rcases hcases with ⟨hk, e⟩ | ⟨hk, hidle, e⟩ | ⟨hk, hidle, hto, e⟩ | ⟨hk, hidle, hto, e⟩ <;>
    rw [e] at hpart
  · have hne : (k + 1) % 25 ≠ 0 := by omega
    have hlow : s.lastLowAfter k = s.lrLastLow := if_neg fun h => hne h.1
    exact .inl ⟨hw.count hne hpart, (congrArg State.lrLastLow hpart).trans hlow.symm,
      (congrArg State.lrto hpart :), fun h => absurd h hne⟩
  all_goals
    have hk : (k + 1) % 25 = 0 := by omega
    obtain ⟨hel', hlast⟩ := hw.polled hk
    rw [hel', hlast] at hidle
  · exact .inr ⟨anchored_of_startFrame hpart hk (by omega) (by omega),
      .inr (congrArg State.lrto hpart :)⟩
  · rw [hel'] at hto
    exact .inr ⟨anchored_of_startFrame hpart hk (by omega) (by omega), .inl hidle⟩
  · rw [hel'] at hto
    have helt : t.el = k + 1 := (congrArg State.el hpart).trans hel'
    have hlastt : t.lrLastLow = s.lastLowAfter k := (congrArg State.lrLastLow hpart).trans hlast
    have hpollt : t.poll = 0 := congrArg State.poll hpart
    have hphase : t.phase = .lr := (congrArg State.phase hpart).trans hw.phase
    exact .inl ⟨⟨hphase, helt, hpollt.trans hk.symm, hlastt ▸ hle, hto⟩, hlastt,
      (congrArg State.lrto hpart :), fun _ => hidle⟩

end State

/-- Settles O38: a wait that has not ended lies below the timeout, and each tick waits on or ends it. -/
theorem lineReadyBounded : Obligations.LineReadyBounded := by
  intro s hp hel hpoll hlast hn
  have h0 : s.Waiting 0 := ⟨hp, hel, hpoll, hlast.le, by omega⟩
  obtain ⟨k, -, t, hrun, ht⟩ := RunsThrough.exists_exit (P := fun k u => u.Waiting k)
    (Q := fun k u => u.Anchored k) 500000 hn h0 (fun _ _ hw => hw.bound)
    (fun _ _ _ hw hnr h => (hw.step hnr h).imp And.left And.left)
  exact ⟨k, ht.idle, ht.bound, ht.poll, (hrun.imp fun _ _ _ hw => hw.phase).through,
    t, hrun.runs, ht.phase, ht.el, ht.seg, ht.dir, ht.low⟩

/-- What a line-ready check that has only read a high line has reached after `k` ticks. -/
structure State.WaitingIdle (lrto : Bool) (k : Nat) (s : State) : Prop where
  waiting : s.Waiting k
  last : s.lrLastLow = 0
  report : s.lrto = lrto
  bound : k < 3000
  line : LineReads (List.replicate (3000 - k) true) s

/-- Every poll of a line that reads high leaves the last low poll at 0, so the idle exit comes at 3000. -/
theorem State.WaitingIdle.step {b : Bool} {k : Nat} {s t : State} (hw : s.WaitingIdle b k)
    (hn : s.NotReset) (h : step s = .next t) :
    t.WaitingIdle b (k + 1) ∨ (k + 1 = 3000 ∧ t.phase = .syncLo ∧ t.lrto = b) := by
  obtain ⟨hwait, hlast, hreport, hbound, hline⟩ := hw
  rw [show 3000 - k = 3000 - (k + 1) + 1 by omega, List.replicate_succ] at hline
  have hlow : s.lastLowAfter k = 0 := (if_neg fun h => by simp [hline.sample] at h).trans hlast
  rcases hwait.step hn h with ⟨hwait, hlast, hlrto, hpoll⟩ | ⟨hanchor, hexit⟩ <;> rw [hlow] at *
  · exact .inl ⟨hwait, hlast, hlrto.trans hreport, by omega, hline.step h⟩
  · have hidle := hanchor.idle
    have hk : k + 1 = 3000 := by omega
    exact .inr ⟨hk, hanchor.phase, (hexit.resolve_left (by omega)).trans hreport⟩

/-- Settles O39: no poll before 3000 exits, and the one at 3000 does. -/
theorem idleLineReadyAfter3000 : Obligations.IdleLineReadyAfter3000 := by
  intro s hp hel hpoll hlast hn hline
  have h0 : s.WaitingIdle s.lrto 0 :=
    ⟨⟨hp, hel, hpoll, hlast.le, by omega⟩, hlast, rfl, by omega, hline⟩
  obtain ⟨k, -, t, hrun, rfl, hphase, hlrto⟩ := RunsThrough.exists_exit
    (P := fun k u => u.WaitingIdle s.lrto k)
    (Q := fun k u => k = 3000 ∧ u.phase = .syncLo ∧ u.lrto = s.lrto) 3000 hn h0
    (fun _ _ hw => hw.bound) (fun _ _ _ hw => hw.step)
  exact ⟨(hrun.imp fun _ _ _ hw => hw.waiting.phase).through, t, hrun.runs, hphase, hlrto⟩

end Sys2Proof.Machine
end

section
/-!
PROOF. The marks and delimiters of a frame (spec/41_transmit.md R134 to R138, R144): each lasts exactly its
length, whatever the host accesses.
-/

namespace Sys2Proof.Machine

/-- The elapsed counter `k` ticks after it stood at `e` (R27). -/
def elapsedAfter (c : Config) (e : Nat) : Nat → Nat
  | 0 => e
  | k + 1 => saturate c (elapsedAfter c e k + 1)

theorem elapsedAfter_hw {e : Nat} (h : e ≤ 4294967295) (k : Nat) :
    elapsedAfter Config.hw e k = min (e + k) 4294967295 := by
  induction k with
  | zero => simpa [elapsedAfter] using h
  | succ k ih =>
    rw [elapsedAfter, ih, saturate_hw]
    omega

/-- Below its cap the elapsed counter counts every tick. -/
theorem elapsedAfter_hw_of_le {e k : Nat} (h : e + k ≤ 4294967295) :
    elapsedAfter Config.hw e k = e + k := by
  rw [elapsedAfter_hw (by omega), Nat.min_eq_left h]

/-- The phase of the delimiter that follows a mark (R134, R137). -/
def Phase.delimiter : Phase → Phase
  | .syncLo => .syncHi
  | _ => .bitHi

namespace State

variable {c : Config} {s : State}

/-- `s` after `k` ticks within a segment (R134 to R138). -/
def counted (c : Config) (k : Nat) (s : State) : State :=
  { s with seg := s.seg + k, el := elapsedAfter c s.el k }

theorem countSegment_counted (k : Nat) :
    (s.counted c k).countSegment c = s.counted c (k + 1) := rfl

theorem segmentLen_of_syncLo (h : s.phase = .syncLo) : s.segmentLen c = c.tSync := by
  simp only [segmentLen, h]

theorem segmentLen_of_bitLo (h : s.phase = .bitLo) : s.segmentLen c = markLen c s.frameBit := by
  simp only [segmentLen, h]

theorem segmentLen_of_delimiter {p : Phase} (h : s.phase = p.delimiter) : s.segmentLen c = c.tDelim := by
  cases p <;> simp only [segmentLen, h, Phase.delimiter]

theorem endSegment_of_marking (h : s.phase.marking = true) :
    s.endSegment c = s.endMark s.phase.delimiter := by
  cases hp : s.phase with
  | syncLo | bitLo => simp only [endSegment, hp, Phase.delimiter]
  | _ => rw [hp] at h; cases h

theorem endSegment_of_syncHi (h : s.phase = .syncHi) : s.endSegment c = s.startBit 0 7 := by
  simp only [endSegment, h]

theorem endSegment_of_bitHi (h : s.phase = .bitHi) : s.endSegment c = s.nextSymbol c := by
  simp only [endSegment, h]

theorem segmentLen_hw_pos (s : State) : 0 < s.segmentLen Config.hw := by
  unfold segmentLen
  split
  · decide
  · exact markLen_hw_pos _
  · decide

/-- One tick within a segment, or its last (R134 to R138). -/
theorem sendPart_of_step_driving {t u : State} {k : Nat} (hd : s.phase.driving = true) (hseg : s.seg = 0)
    (hu : u.sendPart = s.sendPart.counted Config.hw k) (hn : u.NotReset) (h : step u = .next t) :
    t.sendPart =
      if k + 1 = s.segmentLen Config.hw then
        (s.sendPart.counted Config.hw (k + 1)).endSegment Config.hw
      else s.sendPart.counted Config.hw (k + 1) := by
  have hphase : u.phase = s.phase := (congrArg State.phase hu :)
  have hdu : u.phase.driving = true := hphase ▸ hd
  have hcount : (s.sendPart.counted Config.hw k).seg + 1 = k + 1 := by
    change s.seg + k + 1 = k + 1
    omega
  have hstep := phaseStep_of_driving Config.hw u.sample (s := s.sendPart.counted Config.hw k) hd
  rw [hcount, countSegment_counted] at hstep
  rw [sendPart_of_step (busy_of_driving hdu) (ne_mon_of_driving hdu) hn h, hu]
  exact hstep

/-- From its first tick a segment is driven for exactly its length (R144). -/
theorem runsThrough_segment (hd : s.phase.driving = true) (hseg : s.seg = 0)
    (hn : NoReset (s.segmentLen Config.hw) s) :
    ∃ t, RunsThrough (fun k u => u.sendPart = s.sendPart.counted Config.hw k)
        (s.segmentLen Config.hw) s t ∧
      t.sendPart =
        (s.sendPart.counted Config.hw (s.segmentLen Config.hw)).endSegment Config.hw := by
  obtain ⟨k, -, t, hrun, rfl, ht⟩ := RunsThrough.exists_exit
    (P := fun k u => k < s.segmentLen Config.hw ∧ u.sendPart = s.sendPart.counted Config.hw k)
    (Q := fun k u => k = s.segmentLen Config.hw ∧
      u.sendPart = (s.sendPart.counted Config.hw k).endSegment Config.hw)
    (s.segmentLen Config.hw) hn ⟨s.segmentLen_hw_pos, rfl⟩ (fun _ _ h => h.1) (by
      rintro k u v ⟨hk, hu⟩ hnr hstep
      have hv := sendPart_of_step_driving hd hseg hu hnr hstep
      by_cases hend : k + 1 = s.segmentLen Config.hw
      · exact .inr ⟨hend, hv.trans (if_pos hend)⟩
      · exact .inl ⟨by omega, hv.trans (if_neg hend)⟩)
  exact ⟨t, hrun.imp fun _ _ _ h => h.2, ht⟩

/-- The first tick of a mark: the line has just been driven low (R132, R135, R138). -/
structure AtMark (s : State) : Prop where
  marking : s.phase.marking = true
  seg : s.seg = 0
  dir : s.dir = true
  low : s.lineOut = false

theorem driving_of_marking {p : Phase} (h : p.marking = true) : p.driving = true := by
  cases p with
  | syncLo | bitLo => rfl
  | _ => cases h

/-- From its first tick a mark is low for exactly its length, and then its delimiter begins (R144). -/
theorem AtMark.runsThrough (hm : s.AtMark) (hn : NoReset (s.segmentLen Config.hw) s) :
    ∃ t, RunsThrough (fun k u => u.sendPart = s.sendPart.counted Config.hw k ∧ u.lineOe = true ∧
        u.lineO = false) (s.segmentLen Config.hw) s t ∧
      t.sendPart =
        (s.sendPart.counted Config.hw (s.segmentLen Config.hw)).endMark s.phase.delimiter := by
  obtain ⟨t, hrun, ht⟩ := runsThrough_segment (driving_of_marking hm.marking) hm.seg hn
  refine ⟨t, hrun.imp fun k _ u hu => ⟨hu, ?_, ?_⟩, ht.trans (endSegment_of_marking hm.marking)⟩
  · exact (congrArg State.dir hu).trans hm.dir
  · exact (congrArg State.lineOut hu).trans hm.low

end State

/-- Settles O34: the mark of a row of counted ticks, with the elapsed count below its cap. -/
theorem syncMarkExact : Obligations.SyncMarkExact := by
  intro s hp hseg hdir hlow hel hn
  have hm : s.AtMark := ⟨by rw [hp]; rfl, hseg, hdir, hlow⟩
  have hlen : s.segmentLen Config.hw = 2400 := State.segmentLen_of_syncLo hp
  rw [← hlen] at hn
  obtain ⟨t, hrun, ht⟩ := hm.runsThrough hn
  rw [hlen] at hrun ht
  have hseg' (k : Nat) : s.seg + k = k := by omega
  have hel' := elapsedAfter_hw hel
  refine ⟨fun k hk => ?_, t, hrun.runs, ?_⟩
  · obtain ⟨u, hu, hpart, hoe, ho⟩ := hrun.through k hk
    exact ⟨u, hu, (congrArg State.phase hpart).trans hp, hoe, ho,
      (congrArg State.seg hpart).trans (hseg' k), (congrArg State.el hpart).trans (hel' k)⟩
  · rw [hp] at ht
    exact ⟨congrArg State.phase ht, (congrArg State.dir ht).trans hdir, congrArg State.lineOut ht,
      congrArg State.seg ht, (congrArg State.el ht).trans (hel' 2400)⟩

/-- Settles O35: the mark of a row of counted ticks, of the length of the bit's value. -/
theorem bitMarkExact : Obligations.BitMarkExact := by
  intro s b hp hseg hdir hlow hb hn
  have hm : s.AtMark := ⟨by rw [hp]; rfl, hseg, hdir, hlow⟩
  have hlen : s.segmentLen Config.hw = if b then 1200 else 600 := by
    rw [State.segmentLen_of_bitLo hp, State.frameBit, hb]
    rfl
  rw [← hlen] at hn ⊢
  obtain ⟨t, hrun, ht⟩ := hm.runsThrough hn
  refine ⟨fun k hk => ?_, t, hrun.runs, ?_⟩
  · obtain ⟨u, hu, hpart, hoe, ho⟩ := hrun.through k hk
    exact ⟨u, hu, (congrArg State.phase hpart).trans hp, hoe, ho⟩
  · rw [hp] at ht
    exact ⟨congrArg State.phase ht, (congrArg State.dir ht).trans hdir, congrArg State.lineOut ht,
      congrArg State.seg ht, (congrArg State.bitPos ht :), (congrArg State.byteIdx ht :)⟩

end Sys2Proof.Machine
end

section
/-!
PROOF. The waveform of a frame (spec/41_transmit.md R141): the bits that a SEND has still to send, the
sequencing from one to the next (R138, R139), and the frame as a row of marks, each with its delimiter.
-/

namespace Sys2Proof.Machine

/-! ### The bits still to send -/

/-- The bits of a byte from position `p` down begin with the one at `p` (R54). -/
theorem drop_bitsMsbFirst (v : Byte) (p : BitVec 3) :
    (bitsMsbFirst v).drop (7 - p.toNat) = v.getLsbD p.toNat :: (bitsMsbFirst v).drop (8 - p.toNat) := by
  have hp : p.toNat < 8 := p.isLt
  interval_cases p.toNat <;> rfl

namespace State

variable {c : Config} {s t : State}

/-- The bytes from place `i` on begin with `fb[i]` (R139). -/
theorem drop_frameBytes {i : BitVec 2} (h : i.toNat < s.nbytes.toNat) :
    s.frameBytes.drop i.toNat = s.fb.get i :: s.frameBytes.drop (i.toNat + 1) := by
  have hget : [s.fb.b0, s.fb.b1, s.fb.b2, s.fb.b3].drop i.toNat =
      s.fb.get i :: [s.fb.b0, s.fb.b1, s.fb.b2, s.fb.b3].drop (i.toNat + 1) := by
    have hi : i.toNat < 4 := i.isLt
    unfold FrameBytes.get
    interval_cases i.toNat <;> rfl
  rw [frameBytes, List.drop_take, List.drop_take, hget, ← List.take_succ_cons]
  congr 1
  omega

/-- The bits that follow the one being sent: the rest of its byte, then the later bytes (R138, R139). -/
def laterBits (s : State) : List Bool :=
  (bitsMsbFirst (s.fb.get s.byteIdx)).drop (8 - s.bitPos.toNat) ++
    (s.frameBytes.drop (s.byteIdx.toNat + 1)).flatMap bitsMsbFirst

/-- From the first bit of byte `i` on, the bits are those of the bytes from `i` on. -/
theorem bits_of_startBit_seven {i : BitVec 2} (h : i.toNat < s.nbytes.toNat) :
    (s.startBit i 7).frameBit :: (s.startBit i 7).laterBits =
      (s.frameBytes.drop i.toNat).flatMap bitsMsbFirst := by
  rw [drop_frameBytes h]
  rfl

/-- Within a byte the next bit is the one below. -/
theorem bits_of_startBit_pred (h : 0 < s.bitPos.toNat) :
    (s.startBit s.byteIdx (s.bitPos - 1)).frameBit :: (s.startBit s.byteIdx (s.bitPos - 1)).laterBits =
      s.laterBits := by
  have hpred : (s.bitPos - 1).toNat = s.bitPos.toNat - 1 := by bv_omega
  have hdrop := drop_bitsMsbFirst (s.fb.get s.byteIdx) (s.bitPos - 1)
  rw [hpred, show 7 - (s.bitPos.toNat - 1) = 8 - s.bitPos.toNat by omega] at hdrop
  unfold laterBits
  rw [hdrop, ← hpred]
  rfl

/-- After a bit's delimiter the next of the later bits begins, or, where there is none, the frame ends
(R138). -/
theorem nextSymbol_of_laterBits (hidx : s.byteIdx.toNat < s.nbytes.toNat) (hmax : s.nbytes.toNat ≤ 4) :
    (s.laterBits = [] ∧ s.nextSymbol c = s.endFrame c) ∨
      ∃ i p, s.nextSymbol c = s.startBit i p ∧ i.toNat < s.nbytes.toNat ∧
        s.laterBits = (s.startBit i p).frameBit :: (s.startBit i p).laterBits := by
  rcases nextSymbol_cases c s with ⟨hbit, e⟩ | ⟨hbit, hbyte, e⟩ | ⟨hbit, hbyte, e⟩
  · exact .inr ⟨_, _, e, hidx, (bits_of_startBit_pred hbit).symm⟩
  · have hsucc : (s.byteIdx + 1).toNat = s.byteIdx.toNat + 1 := by bv_omega
    refine .inr ⟨_, _, e, hsucc ▸ hbyte, ?_⟩
    rw [bits_of_startBit_seven (hsucc ▸ hbyte), hsucc, laterBits, hbit]
    rfl
  · refine .inl ⟨?_, e⟩
    have hlen : s.frameBytes.length ≤ s.byteIdx.toNat + 1 := by
      rw [frameBytes, List.length_take]
      omega
    rw [laterBits, hbit, List.drop_eq_nil_of_le hlen]
    rfl

end State

/-! ### A row of marks -/

/-- The ticks of a row of marks, each with its delimiter (R84). -/
def marksLen (c : Config) (marks : List Nat) : Nat := (marks.map (· + c.tDelim)).sum

theorem marksLen_cons (c : Config) (m : Nat) (marks : List Nat) :
    marksLen c (m :: marks) = m + c.tDelim + marksLen c marks := rfl

theorem frameLen_eq_marksLen (c : Config) (bytes : List Byte) :
    frameLen c bytes = marksLen c (frameMarks c bytes) := rfl

section

variable {c : Config} {m k : Nat} {marks : List Nat}

theorem levelAt_mark (h : k < m) : levelAt c (m :: marks) k = false := if_pos h

theorem levelAt_delimiter (h : k < c.tDelim) : levelAt c (m :: marks) (m + k) = true := by
  rw [levelAt, if_neg (by omega), if_pos (by omega)]

/-- After its first mark and delimiter a row is the rest of it (R141). -/
theorem levelAt_later : levelAt c (m :: marks) (m + c.tDelim + k) = levelAt c marks k := by
  rw [levelAt, if_neg (by omega), if_neg (by omega), Nat.add_sub_cancel_left]

end

/-- The wire is driven at the level that a row of marks has after `k` ticks (R141). -/
def Driving (marks : List Nat) (k : Nat) (u : State) : Prop :=
  u.lineOe = true ∧ u.lineO = levelAt Config.hw marks k

namespace State

variable {s t : State}

/-- The SEND's part of `s`, at a mark, once that mark and its delimiter are counted (R134 to R138). -/
def symbolEnd (s : State) : State :=
  ((s.sendPart.counted Config.hw (s.segmentLen Config.hw)).endMark s.phase.delimiter).counted
    Config.hw 600

theorem symbolEnd_el (h : s.el + (s.segmentLen Config.hw + 600) ≤ 4294967295) :
    s.symbolEnd.el = s.el + (s.segmentLen Config.hw + 600) := by
  change elapsedAfter Config.hw (elapsedAfter Config.hw s.el (s.segmentLen Config.hw)) 600 = _
  rw [← Nat.add_assoc] at h ⊢
  rw [elapsedAfter_hw_of_le (Nat.le_of_add_right_le h)]
  exact elapsedAfter_hw_of_le h

/-- A mark and its delimiter drive the first symbol of a row, and then the delimiter ends (R144). -/
theorem AtMark.runsThrough_symbol (hm : s.AtMark) (marks : List Nat)
    (hn : NoReset (s.segmentLen Config.hw + 600) s) :
    ∃ t, RunsThrough (Driving (s.segmentLen Config.hw :: marks)) (s.segmentLen Config.hw + 600) s t ∧
      t.sendPart = s.symbolEnd.endSegment Config.hw := by
  obtain ⟨d, hmark, hd⟩ := hm.runsThrough (hn.mono (Nat.le_add_right _ _))
  have hphase : d.phase = s.phase.delimiter := (congrArg State.phase hd :)
  have hdriving : d.phase.driving = true := by
    rw [hphase]
    cases s.phase <;> rfl
  have hdir : d.dir = true := (congrArg State.dir hd).trans hm.dir
  have hout : d.lineOut = true := (congrArg State.lineOut hd :)
  have hlen : d.segmentLen Config.hw = 600 := segmentLen_of_delimiter hphase
  have hnd : NoReset (d.segmentLen Config.hw) d := hlen ▸ hn.runsTo hmark.runs
  obtain ⟨t, hdelim, ht⟩ := runsThrough_segment hdriving (congrArg State.seg hd) hnd
  rw [hlen] at hdelim ht
  rw [hd] at ht
  refine ⟨t, .trans (hmark.imp fun k hk u ⟨_, hoe, ho⟩ => ⟨hoe, ho.trans (levelAt_mark hk).symm⟩)
    (hdelim.imp fun k hk u hu => ⟨(congrArg State.dir hu).trans hdir, ?_⟩), ht⟩
  rw [levelAt_delimiter hk]
  exact (congrArg State.lineOut hu).trans hout

/-- The frame has ended `e` ticks after its anchor: the line is released, and padding follows unless
T_FRAME has passed (R138). -/
structure FrameEnded (e : Nat) (t : State) : Prop where
  released : t.lineOe = false
  high : t.lineO = true
  el : t.el = e
  phase : t.phase = if 30000 ≤ e then .idle else .pad

theorem frameEnded_of_endFrame {w : State} {e : Nat} (h : t.sendPart = w.endFrame Config.hw)
    (hout : w.lineOut = true) (hel : w.el = e) : t.FrameEnded e where
  released := congrArg State.dir h
  high := (congrArg State.lineOut h).trans hout
  el := (congrArg State.el h).trans hel
  phase := (congrArg State.phase h).trans (by rw [endFrame_phase, hel]; rfl)

/-- The first tick of a bit's mark, `e` ticks after the frame anchor and with `bits` still to send. -/
structure AtBit (e : Nat) (bits : List Bool) (s : State) : Prop where
  mark : s.AtMark
  phase : s.phase = .bitLo
  el : s.el = e
  index : s.byteIdx.toNat < s.nbytes.toNat
  count : s.nbytes.toNat ≤ 4
  bits : s.frameBit :: s.laterBits = bits

theorem atBit_of_startBit {w : State} {i : BitVec 2} {p : BitVec 3} {e : Nat} {bits : List Bool}
    (h : t.sendPart = w.startBit i p) (hdir : w.dir = true) (hel : w.el = e)
    (hidx : i.toNat < w.nbytes.toNat) (hmax : w.nbytes.toNat ≤ 4)
    (hbits : (w.startBit i p).frameBit :: (w.startBit i p).laterBits = bits) : t.AtBit e bits := by
  have hphase : t.phase = .bitLo := (congrArg State.phase h :)
  have hnbytes : t.nbytes = w.nbytes := (congrArg State.nbytes h :)
  have hbyte : t.byteIdx = i := (congrArg State.byteIdx h :)
  have hframe : t.frameBit = (w.startBit i p).frameBit := (congrArg State.frameBit h :)
  have hlater : t.laterBits = (w.startBit i p).laterBits := (congrArg State.laterBits h :)
  have hlow : t.lineOut = false := (congrArg State.lineOut h :)
  refine ⟨⟨?_, (congrArg State.seg h :), (congrArg State.dir h).trans hdir, hlow⟩, hphase,
    (congrArg State.el h).trans hel, ?_, ?_, ?_⟩
  · rw [hphase]
    rfl
  · rwa [hbyte, hnbytes]
  · rwa [hnbytes]
  · rwa [hframe, hlater]

/-- The wire carries the first of the bits to send; then the next one's mark begins, or, after the last,
the frame ends (R137, R138). -/
theorem AtBit.runsThrough_first {e : Nat} {b : Bool} {bits : List Bool} (hs : s.AtBit e (b :: bits))
    (marks : List Nat) (hel : e + (markLen Config.hw b + 600) ≤ 4294967295)
    (hn : NoReset (markLen Config.hw b + 600) s) :
    ∃ t, RunsThrough (Driving (markLen Config.hw b :: marks)) (markLen Config.hw b + 600) s t ∧
      ((bits = [] ∧ t.FrameEnded (e + (markLen Config.hw b + 600))) ∨
        t.AtBit (e + (markLen Config.hw b + 600)) bits) := by
  obtain ⟨hm, hp, rfl, hidx, hmax, hbits⟩ := hs
  obtain ⟨rfl, rfl⟩ := List.cons.inj hbits
  rw [← segmentLen_of_bitLo hp] at hel hn ⊢
  obtain ⟨t, hrun, ht⟩ := hm.runsThrough_symbol marks hn
  refine ⟨t, hrun, ?_⟩
  have hphase : s.symbolEnd.phase = .bitHi := congrArg Phase.delimiter hp
  rw [endSegment_of_bitHi hphase] at ht
  rcases nextSymbol_of_laterBits (c := Config.hw) (s := s.symbolEnd) hidx hmax with
    ⟨hnil, e⟩ | ⟨i, p, e, hi, hcons⟩ <;> rw [e] at ht
  · exact .inl ⟨hnil, frameEnded_of_endFrame ht rfl (symbolEnd_el hel)⟩
  · exact .inr (atBit_of_startBit ht hm.dir (symbolEnd_el hel) hi hmax hcons.symm)

/-- The wire carries the bits to send, tick by tick, and is then released: by induction on the bits. -/
theorem AtBit.runsThrough {e : Nat} {bits : List Bool} (hs : s.AtBit e bits)
    (hel : e + marksLen Config.hw (bits.map (markLen Config.hw)) ≤ 4294967295)
    (hn : NoReset (marksLen Config.hw (bits.map (markLen Config.hw))) s) :
    ∃ t, RunsThrough (Driving (bits.map (markLen Config.hw)))
        (marksLen Config.hw (bits.map (markLen Config.hw))) s t ∧
      t.FrameEnded (e + marksLen Config.hw (bits.map (markLen Config.hw))) := by
  induction bits generalizing s e with
  | nil => cases hs.bits
  | cons b bits ih =>
    rw [List.map_cons, marksLen_cons, Config.hw_tDelim] at *
    obtain ⟨t, hfirst, ⟨rfl, ht⟩ | ht⟩ := hs.runsThrough_first (bits.map (markLen Config.hw))
      (by omega) (hn.mono (Nat.le_add_right _ _))
    · exact ⟨t, hfirst, ht⟩
    · obtain ⟨u, hrest, hu⟩ := ih ht (by omega) (hn.runsTo hfirst.runs)
      refine ⟨u, hfirst.trans (hrest.imp fun k _ v ⟨hoe, ho⟩ => ⟨hoe, ho.trans ?_⟩), ?_⟩
      · exact levelAt_later.symm
      · rwa [← Nat.add_assoc]

end State

/-- Settles O36: the sync symbol, then the bits of the frame's bytes. -/
theorem sendDrivesWaveform : Obligations.SendDrivesWaveform := by
  intro s hp hseg hel hdir hlow hmin hmax hn
  have hm : s.AtMark := ⟨by rw [hp]; rfl, hseg, hdir, hlow⟩
  have hlen : s.segmentLen Config.hw = 2400 := State.segmentLen_of_syncLo hp
  have hbytes : s.frameBytes.length = s.nbytes.toNat := by
    rw [State.frameBytes, List.length_take]
    exact Nat.min_eq_left hmax
  have hshort := (frameLen_hw_bounds (bytes := s.frameBytes) (by omega) (by omega)).2
  generalize hmarks : (s.frameBytes.flatMap bitsMsbFirst).map (markLen Config.hw) = marks
  have hwave : frameMarks Config.hw s.frameBytes = 2400 :: marks := congrArg (2400 :: ·) hmarks
  have hsum : frameLen Config.hw s.frameBytes = 3000 + marksLen Config.hw marks := by
    rw [frameLen_eq_marksLen, hwave, marksLen_cons]
    rfl
  rw [hsum] at hn hshort ⊢
  obtain ⟨t, hsync, ht⟩ := hm.runsThrough_symbol marks (hn.mono (by omega))
  have hphase : s.symbolEnd.phase = .syncHi := congrArg Phase.delimiter hp
  have hanchor : s.symbolEnd.el = 3000 := by
    rw [State.symbolEnd_el (by omega), hel, hlen]
  rw [State.endSegment_of_syncHi hphase] at ht
  rw [hlen] at hsync
  have hbit : t.AtBit 3000 (s.frameBytes.flatMap bitsMsbFirst) :=
    State.atBit_of_startBit ht hdir hanchor (Nat.zero_lt_two.trans_le hmin) hmax
      (State.bits_of_startBit_seven (i := 0) (Nat.zero_lt_two.trans_le hmin))
  have hnt : NoReset (marksLen Config.hw marks) t := hn.runsTo hsync.runs
  obtain ⟨u, hbits, hu⟩ := hbit.runsThrough (by rw [hmarks]; omega) (by rwa [hmarks])
  rw [hmarks] at hbits hu
  have hrun := hsync.trans (hbits.imp fun k _ v ⟨hoe, ho⟩ => ⟨hoe, ho.trans levelAt_later.symm⟩)
  simp only [waveform, hwave]
  exact ⟨hrun.through, u, hrun.runs, hu.released, hu.high, hu.el, hu.phase⟩

end Sys2Proof.Machine
end

section
/-!
PROOF. What a measurement result does (spec/42_receive.md R170 to R179, R185, R186): the classes of the
configuration in use as bands of durations, and the events that a result offers to the buffer.
-/

namespace Sys2Proof.Machine

/-! ### The classifier -/

/-- The classes of the configuration in use, by the end points of the bands (R80 to R82, R171). -/
theorem classify_hw (d : Nat) :
    classify Config.hw d =
      if 2000 ≤ d ∧ d ≤ 2880 then .sync
      else if 1000 ≤ d ∧ d ≤ 1440 then .one
      else if 500 ≤ d ∧ d ≤ 720 then .zero
      else .unknown := by
  have hsync : Config.hw.bandLow 2400 = 2000 ∧ Config.hw.bandHigh 2400 = 2880 := ⟨rfl, rfl⟩
  have hone : Config.hw.bandLow 1200 = 1000 ∧ Config.hw.bandHigh 1200 = 1440 := ⟨rfl, rfl⟩
  have hzero : Config.hw.bandLow 600 = 500 ∧ Config.hw.bandHigh 600 = 720 := ⟨rfl, rfl⟩
  simp only [classify, inBand_iff_mem_band Config.hw_wf, Config.hw_tSync, Config.hw_tOne,
    Config.hw_tZero, hsync, hone, hzero]

/-- Settles O43: the bands are apart, so the order in which they are tested does not matter. -/
theorem classifierBands : Obligations.ClassifierBands := by
  intro d
  rw [classify_hw]
  refine ⟨?_, ?_, ?_⟩ <;> (split_ifs <;> simp) <;> omega

theorem classify_hw_of_bit {b : Bool} {d : Nat}
    (h : if b then 1000 ≤ d ∧ d ≤ 1440 else 500 ≤ d ∧ d ≤ 720) :
    classify Config.hw d = if b then .one else .zero := by
  obtain ⟨-, hone, hzero⟩ := classifierBands d
  cases b with
  | true => exact hone.2 h
  | false => exact hzero.2 h

theorem classify_hw_eq_unknown {d : Nat} (hzero : ¬(500 ≤ d ∧ d ≤ 720))
    (hone : ¬(1000 ≤ d ∧ d ≤ 1440)) (hsync : ¬(2000 ≤ d ∧ d ≤ 2880)) :
    classify Config.hw d = .unknown := by
  rw [classify_hw, if_neg hsync, if_neg hone, if_neg hzero]

/-! ### The result 0 -/

/-- Settles O49: by whether the buffer has room. -/
theorem emitKeepsEarlierEvents : Obligations.EmitKeepsEarlierEvents := by
  intro s e
  rcases State.emit_cases Config.hw s e with ⟨hroom, h⟩ | ⟨hfull, h⟩
  · exact ⟨fun _ => h, fun hfull => absurd hroom hfull.not_gt⟩
  · exact ⟨fun hroom => absurd hroom hfull.not_gt, fun _ => h⟩

namespace State

variable {s : State}

/-- The result 0 in an idle gap that has its BREAK (R172). -/
theorem handle_zero_of_gapNoted (h : s.gapNoted = true) (c : Config) :
    s.handle c 0 = { s with acc := 0, bitCnt := 0 } :=
  if_pos h

/-- The result 0 that opens an idle gap offers a BREAK (R172). -/
theorem handle_zero_of_not_gapNoted (h : s.gapNoted = false) :
    s.handle Config.hw 0 =
      { s.offered [.lineBreak] with acc := 0, bitCnt := 0, gapNoted := true } := by
  rcases onNoSignal_cases Config.hw s with ⟨hgap, -⟩ | ⟨-, e⟩
  · rw [h] at hgap
    cases hgap
  · rw [emit_eq_offered] at e
    exact e

end State

/-- Settles O46: by whether the gap has its BREAK, and by what is left of the buffer. -/
theorem zeroResultBreaksOncePerGap : Obligations.ZeroResultBreaksOncePerGap := by
  intro s
  have hbreak (h : s.gapNoted = false) : s.handle Config.hw 0 =
      { s.emit Config.hw .lineBreak with acc := 0, bitCnt := 0, gapNoted := true } := by
    rw [State.handle_zero_of_not_gapNoted h, State.emit_eq_offered]
  obtain ⟨hroom, hfull⟩ := emitKeepsEarlierEvents s .lineBreak
  refine ⟨fun h hlen => ?_, fun h hlen => ?_, fun h => State.handle_zero_of_gapNoted h _, ?_⟩
  · rw [hbreak h, hroom hlen]
  · rw [hbreak h, hfull hlen]
  · cases h : s.gapNoted with
    | true => simp only [State.handle_zero_of_gapNoted, h]
    | false =>
      rw [hbreak h]
      exact State.handle_zero_of_gapNoted rfl _

/-! ### A measured duration -/

namespace State

variable {s : State} {d : Nat}

/-- The BIT events that a capture shows for `bits`: in mode 1 only (R175, R176). -/
def bitEvents (s : State) (bits : List Bool) : List Event :=
  if s.mode = 1 then bits.map Event.bit else []

variable (s) in
theorem bitEvents_singleton (b : Bool) : s.bitEvents [b] = [.bit b] ∨ s.bitEvents [b] = [] := by
  unfold bitEvents
  split
  · exact .inl rfl
  · exact .inr rfl

theorem emitBit_eq_offered (b : Bool) :
    s.emitBit Config.hw b = s.offered (s.bitEvents [b]) := by
  rcases emitBit_cases Config.hw s b with ⟨hm, e⟩ | ⟨hm, e⟩ <;> rw [e]
  · rw [bitEvents, if_pos hm, emit_eq_offered, List.map_singleton]
  · rw [bitEvents, if_neg hm, offered_nil]

/-- The events and the assembler after a decoded bit, whose place in `acc` is set already (R175, R176,
R178). -/
theorem advanceBit_emitBit (b : Bool) :
    (s.emitBit Config.hw b).advanceBit Config.hw =
      if s.bitCnt = 7 then
        { s.offered (s.bitEvents [b] ++ [.byte s.acc]) with
          acc := 0, bitCnt := 0 }
      else { s.offered (s.bitEvents [b]) with bitCnt := s.bitCnt + 1 } := by
  rw [emitBit_eq_offered, advanceBit, emit_eq_offered, offered_bitCnt, offered_acc, offered_append]
  rfl

theorem handle_of_pos (hd : 0 < d) (hm : s.mode ≠ 0) :
    s.handle Config.hw d = s.clearGap.onSymbol Config.hw (classify Config.hw d) :=
  (if_neg hd.ne').trans (if_neg hm)

/-- A duration in mode 0 is offered as it is (R173). -/
theorem handle_raw (hd : 0 < d) (hm : s.mode = 0) :
    s.handle Config.hw d = { s.offered [.raw (BitVec.ofNat 16 d)] with gapNoted := false } :=
  calc s.handle Config.hw d = s.clearGap.emit Config.hw (.raw (BitVec.ofNat 16 d)) :=
        (if_neg hd.ne').trans (if_pos hm)
    _ = _ := emit_eq_offered _ _

theorem handle_sync (hm : s.mode ≠ 0) (hlow : 2000 ≤ d) (hhigh : d ≤ 2880) :
    s.handle Config.hw d =
      { s.offered [.frame] with gapNoted := false, acc := 0, bitCnt := 0 } := by
  rw [handle_of_pos (by omega) hm, (classifierBands d).1.2 ⟨hlow, hhigh⟩, onSymbol, onSync,
    emit_eq_offered]
  rfl

/-- `acc` with the bit `b` at the place of the next bit to be decoded (R175, R176). -/
def accWith (b : Bool) (s : State) : Byte :=
  if b then s.acc ||| (0x80#8 >>> s.bitCnt.toNat) else s.acc

/-- A decoded bit: its events are offered, and the assembler moves on (R175, R176, R178). -/
theorem handle_bit (b : Bool) (hm : s.mode ≠ 0)
    (hband : if b then 1000 ≤ d ∧ d ≤ 1440 else 500 ≤ d ∧ d ≤ 720) :
    s.handle Config.hw d =
      if s.bitCnt = 7 then
        { s.offered (s.bitEvents [b] ++ [.byte (s.accWith b)]) with
          gapNoted := false, acc := 0, bitCnt := 0 }
      else
        { s.offered (s.bitEvents [b]) with
          gapNoted := false, acc := s.accWith b, bitCnt := s.bitCnt + 1 } := by
  have hd : 0 < d := by
    split at hband <;> omega
  rw [handle_of_pos hd hm, classify_hw_of_bit hband]
  cases b with
  | true => exact advanceBit_emitBit true
  | false => exact advanceBit_emitBit false

/-- A pulse outside the bands drops the byte under assembly (R177). -/
theorem handle_unknown (hd : 0 < d) (hm : s.mode ≠ 0) (hunknown : classify Config.hw d = .unknown) :
    s.handle Config.hw d = { s with gapNoted := false, acc := 0, bitCnt := 0 } := by
  rw [handle_of_pos hd hm, hunknown]
  rfl

end State

/-- Settles O47: each clause by the class of the duration. -/
theorem measuredDurationEffects : Obligations.MeasuredDurationEffects :=
  fun _ _ hd => ⟨State.handle_raw hd, State.handle_sync, State.handle_bit, fun hm hzero hone hsync =>
    State.handle_unknown hd hm (classify_hw_eq_unknown hzero hone hsync)⟩

/-! ### The events of one result -/

/-- The events that one result can leave: none, one, or a BIT and then a BYTE (R186). -/
def AtMostBitThenByte (es : List Event) : Prop := es.length ≤ 1 ∨ ∃ b v, es = [.bit b, .byte v]

theorem AtMostBitThenByte.take {es : List Event} (h : AtMostBitThenByte es) (n : Nat) :
    AtMostBitThenByte (es.take n) := by
  rcases h with h | ⟨b, v, rfl⟩
  · exact .inl ((List.length_take_le' n es).trans h)
  · match n with
    | 0 => exact .inl (Nat.zero_le 1)
    | 1 => exact .inl le_rfl
    | n + 2 => exact .inr ⟨b, v, by simp⟩

/-- What a result offers to the buffer (R172 to R178). -/
theorem State.handle_evbuf_offered (s : State) (d : Nat) :
    ∃ es, AtMostBitThenByte es ∧ (s.handle Config.hw d).evbuf = (s.offered es).evbuf := by
  have hone (e : Event) : AtMostBitThenByte [e] := .inl le_rfl
  have hnone : AtMostBitThenByte [] := .inl (Nat.zero_le 1)
  have hkeep : s.evbuf = (s.offered []).evbuf := by rw [offered_nil]
  have hbit (b : Bool) (hm : s.mode ≠ 0)
      (hband : if b then 1000 ≤ d ∧ d ≤ 1440 else 500 ≤ d ∧ d ≤ 720) :
      ∃ es, AtMostBitThenByte es ∧ (s.handle Config.hw d).evbuf = (s.offered es).evbuf := by
    obtain ⟨hpartial, hlast⟩ : AtMostBitThenByte (s.bitEvents [b]) ∧
        AtMostBitThenByte (s.bitEvents [b] ++ [.byte (s.accWith b)]) := by
      rcases s.bitEvents_singleton b with e | e <;> rw [e]
      · exact ⟨hone _, .inr ⟨b, s.accWith b, rfl⟩⟩
      · exact ⟨hnone, hone _⟩
    rw [handle_bit b hm hband]
    split
    · exact ⟨_, hlast, rfl⟩
    · exact ⟨_, hpartial, rfl⟩
  rcases Nat.eq_zero_or_pos d with rfl | hd
  · cases hgap : s.gapNoted with
    | true => exact ⟨[], hnone, by rw [handle_zero_of_gapNoted hgap]; exact hkeep⟩
    | false => exact ⟨_, hone _, by rw [handle_zero_of_not_gapNoted hgap]⟩
  · by_cases hm : s.mode = 0
    · exact ⟨_, hone _, by rw [handle_raw hd hm]⟩
    · obtain ⟨hsyncBand, honeBand, hzeroBand⟩ := classifierBands d
      cases hclass : classify Config.hw d with
      | sync => exact ⟨_, hone _, by rw [handle_sync hm (hsyncBand.1 hclass).1 (hsyncBand.1 hclass).2]⟩
      | one => exact hbit true hm (honeBand.1 hclass)
      | zero => exact hbit false hm (hzeroBand.1 hclass)
      | unknown => exact ⟨[], hnone, by rw [handle_unknown hd hm hclass]; exact hkeep⟩

/-- Settles O48: the buffer keeps a first part of what the result offers. -/
theorem eventsPerResultBounded : Obligations.EventsPerResultBounded := by
  intro s d
  obtain ⟨es, hes, hbuf⟩ := s.handle_evbuf_offered d
  exact ⟨es.take (4096 - s.evbuf.length), hbuf, hes.take _⟩

end Sys2Proof.Machine
end

section
/-!
PROOF. The marks of a byte and of a frame through the decoder (spec/42_receive.md R187), and the texts of
events (R188).
-/

namespace Sys2Proof.Machine

/-! ### The byte under assembly -/

/-- The first `k` bits of `v`, the most significant first, the other places 0 (R54, R176). -/
def firstBits (v : Byte) (k : Nat) : Byte := v &&& ~~~(0xFF#8 >>> k)

theorem getLsbD_firstBits (v : Byte) (k : Nat) {i : Nat} (hi : i < 8) :
    (firstBits v k).getLsbD i = (v.getLsbD i && decide (8 ≤ k + i)) := by
  have hmask : (0xFF#8 >>> k).getLsbD i = decide (k + i < 8) :=
    (BitVec.getLsbD_ushiftRight ..).trans (BitVec.getLsbD_allOnes (v := 8))
  rw [firstBits, BitVec.getLsbD_and, BitVec.getLsbD_not, hmask, ← decide_not, decide_eq_true hi,
    Bool.true_and]
  simp only [Nat.not_lt]

/-- The place of bit `k` of a byte in transmission order (R175). -/
theorem getLsbD_bitPlace (k i : Nat) : (0x80#8 >>> k).getLsbD i = decide (k + i = 7) := by
  rw [BitVec.getLsbD_ushiftRight, show 0x80#8 = BitVec.twoPow 8 7 from rfl, BitVec.getLsbD_twoPow]
  simp [eq_comm]

theorem firstBits_zero (v : Byte) : firstBits v 0 = 0 :=
  BitVec.and_zero

theorem firstBits_eight (v : Byte) : firstBits v 8 = v :=
  BitVec.and_allOnes

/-- The next bit in transmission order joins the first `k` at its place (R175, R176). -/
theorem firstBits_succ (v : Byte) {k : Nat} (hk : k < 8) :
    (if v.getLsbD (7 - k) then firstBits v k ||| (0x80#8 >>> k) else firstBits v k) =
      firstBits v (k + 1) := by
  apply BitVec.eq_of_getLsbD_eq
  intro i hi
  rw [apply_ite (BitVec.getLsbD · i), BitVec.getLsbD_or, getLsbD_firstBits v k hi,
    getLsbD_firstBits v (k + 1) hi, getLsbD_bitPlace]
  by_cases hplace : k + i = 7
  · obtain rfl : i = 7 - k := by omega
    have hnext : 8 ≤ k + 1 + (7 - k) := by omega
    cases v.getLsbD (7 - k) <;> simp [hplace, hnext]
  · have hsucc : (8 ≤ k + 1 + i) = (8 ≤ k + i) := propext (by omega)
    simp [hplace, hsucc]

/-! ### Durations in a row -/

namespace State

variable {s : State}

/-- The decoder after the durations `ds`, each handed to it as a result (R166). -/
def handleAll (c : Config) (ds : List Nat) (s : State) : State := ds.foldl (fun u d => u.handle c d) s

theorem handleAll_cons (c : Config) (d : Nat) (ds : List Nat) (s : State) :
    s.handleAll c (d :: ds) = (s.handle c d).handleAll c ds := rfl

theorem handleAll_append (c : Config) (ds ds' : List Nat) (s : State) :
    s.handleAll c (ds ++ ds') = (s.handleAll c ds).handleAll c ds' :=
  List.foldl_append

@[simp] theorem handleAll_mode (c : Config) (ds : List Nat) (s : State) :
    (s.handleAll c ds).mode = s.mode := by
  induction ds generalizing s with
  | nil => rfl
  | cons d ds ih => rw [handleAll_cons, ih, handle_mode]

/-- Where the buffer has room for them, the events offered are appended (R185). -/
theorem offered_of_room {es : List Event} (h : s.evbuf.length + es.length ≤ 4096) :
    s.offered es = { s with evbuf := s.evbuf ++ es } := by
  have hroom : es.length ≤ 4096 - s.evbuf.length := by omega
  simp [offered, List.take_of_length_le hroom, hroom]

@[simp] theorem handle_bitEvents (c : Config) (d : Nat) (bits : List Bool) :
    (s.handle c d).bitEvents bits = s.bitEvents bits := by
  rw [bitEvents, handle_mode, bitEvents]

@[simp] theorem handleAll_bitEvents (c : Config) (ds : List Nat) (bits : List Bool) :
    (s.handleAll c ds).bitEvents bits = s.bitEvents bits := by
  rw [bitEvents, handleAll_mode, bitEvents]

variable (s) in
theorem bitEvents_cons (b : Bool) (bits : List Bool) :
    s.bitEvents (b :: bits) = s.bitEvents [b] ++ s.bitEvents bits := by
  unfold bitEvents
  split <;> rfl

variable (s) in
theorem length_bitEvents_le (bits : List Bool) : (s.bitEvents bits).length ≤ bits.length := by
  unfold bitEvents
  split <;> simp

/-- The mark of a bit, as a duration, is decoded as that bit (R175, R176, R178). -/
theorem handle_markLen (b : Bool) (hm : s.mode ≠ 0) (hroom : s.evbuf.length + 2 ≤ 4096) :
    s.handle Config.hw (markLen Config.hw b) =
      if s.bitCnt = 7 then
        { s with
          evbuf := s.evbuf ++ (s.bitEvents [b] ++ [.byte (s.accWith b)])
          gapNoted := false, acc := 0, bitCnt := 0 }
      else
        { s with
          evbuf := s.evbuf ++ s.bitEvents [b]
          gapNoted := false, acc := s.accWith b, bitCnt := s.bitCnt + 1 } := by
  have hlen : (s.bitEvents [b]).length ≤ 1 := s.length_bitEvents_le [b]
  rw [handle_bit b hm (by cases b <;> decide)]
  rw [offered_of_room (by rw [List.length_append, List.length_singleton]; omega),
    offered_of_room (by omega)]

/-- The first `k` bits of `v` are decoded (R31). -/
structure HasBits (v : Byte) (k : Nat) (s : State) : Prop where
  count : s.bitCnt.toNat = k
  acc : s.acc = firstBits v k

theorem HasBits.accWith {v : Byte} {k : Nat} (h : s.HasBits v k) :
    s.accWith (v.getLsbD (7 - k)) = firstBits v (k + 1) := by
  have hk : k < 8 := h.count ▸ s.bitCnt.isLt
  rw [State.accWith, h.acc, h.count, firstBits_succ v hk]

/-- A bit before the last is added to the byte under assembly. -/
theorem HasBits.handle_bit {v : Byte} {k : Nat} (h : s.HasBits v k) (hk : k < 7) (hm : s.mode ≠ 0)
    (hroom : s.evbuf.length + 2 ≤ 4096) :
    (s.handle Config.hw (markLen Config.hw (v.getLsbD (7 - k)))).HasBits v (k + 1) ∧
      (s.handle Config.hw (markLen Config.hw (v.getLsbD (7 - k)))).evbuf =
        s.evbuf ++ s.bitEvents [v.getLsbD (7 - k)] := by
  have hcount := h.count
  have hnot : s.bitCnt ≠ 7 := fun e => by
    rw [e] at hcount
    exact hk.ne' hcount
  rw [handle_markLen _ hm hroom, if_neg hnot]
  refine ⟨⟨?_, h.accWith⟩, rfl⟩
  change (s.bitCnt + 1).toNat = k + 1
  bv_omega

/-- `t` is `s` after the last bits of `v`, whose first ones are decoded in `s`, and the byte (R178). -/
structure GivesByte (v : Byte) (bits : List Bool) (s t : State) : Prop where
  acc : t.acc = 0
  bitCnt : t.bitCnt = 0
  evbuf : t.evbuf = s.evbuf ++ (s.bitEvents bits ++ [.byte v])

/-- The last bit completes the byte. -/
theorem HasBits.handle_lastBit {v : Byte} (h : s.HasBits v 7) (hm : s.mode ≠ 0)
    (hroom : s.evbuf.length + 2 ≤ 4096) :
    GivesByte v [v.getLsbD 0] s (s.handle Config.hw (markLen Config.hw (v.getLsbD 0))) := by
  have hlast : s.bitCnt = 7 := BitVec.eq_of_toNat_eq h.count
  have hbyte : s.accWith (v.getLsbD 0) = v := h.accWith.trans (firstBits_eight v)
  rw [handle_markLen _ hm hroom, if_pos hlast, hbyte]
  exact ⟨rfl, rfl, rfl⟩

/-- With the first bits of `v` decoded, the marks of its `n + 1` other bits give the byte: by induction on
`n`, from the last bit back (R187). -/
theorem HasBits.handleAll_rest {v : Byte} {k : Nat} (h : s.HasBits v k) (n : Nat) (hk : k + n = 7)
    (hm : s.mode ≠ 0) (hroom : s.evbuf.length + (n + 2) ≤ 4096) :
    GivesByte v ((bitsMsbFirst v).drop k) s
      (s.handleAll Config.hw (((bitsMsbFirst v).drop k).map (markLen Config.hw))) := by
  induction n generalizing k s with
  | zero =>
    obtain rfl : k = 7 := hk
    exact h.handle_lastBit hm hroom
  | succ n ih =>
    have hdrop : (bitsMsbFirst v).drop k = v.getLsbD (7 - k) :: (bitsMsbFirst v).drop (k + 1) := by
      have hp := drop_bitsMsbFirst v (BitVec.ofNat 3 (7 - k))
      rwa [BitVec.toNat_ofNat, Nat.mod_eq_of_lt (by omega), show 7 - (7 - k) = k by omega,
        show 8 - (7 - k) = k + 1 by omega] at hp
    obtain ⟨hbits, hbuf⟩ := h.handle_bit (by omega) hm (by omega)
    have hlen := s.length_bitEvents_le [v.getLsbD (7 - k)]
    obtain ⟨hacc, hcnt, hrest⟩ := ih hbits (by omega) (by rwa [handle_mode])
      (by rw [hbuf, List.length_append]; simp only [List.length_singleton] at hlen; omega)
    rw [hdrop, List.map_cons, handleAll_cons]
    refine ⟨hacc, hcnt, ?_⟩
    rw [hrest, hbuf, handle_bitEvents, s.bitEvents_cons _ ((bitsMsbFirst v).drop (k + 1))]
    simp only [List.append_assoc]

/-- The eight marks of a byte give the byte (R187). -/
theorem handleAll_byte (v : Byte) (hm : s.mode ≠ 0) (hacc : s.acc = 0) (hcnt : s.bitCnt = 0)
    (hroom : s.evbuf.length + 9 ≤ 4096) :
    GivesByte v (bitsMsbFirst v) s
      (s.handleAll Config.hw ((bitsMsbFirst v).map (markLen Config.hw))) :=
  HasBits.handleAll_rest (k := 0) ⟨congrArg BitVec.toNat hcnt, hacc.trans (firstBits_zero v).symm⟩ 7 rfl
    hm hroom

theorem mode_ne_zero (hm : s.mode = 1 ∨ s.mode = 2) : s.mode ≠ 0 := by
  rcases hm with hm | hm <;> rw [hm] <;> decide

end State

/-- Settles O51, by induction on the bits that are still to be decoded. -/
theorem byteRoundTrip : Obligations.ByteRoundTrip := by
  intro s v hm hacc hcnt hroom
  have hbyte := State.handleAll_byte v (State.mode_ne_zero hm) hacc hcnt hroom
  rw [State.handleAll, List.foldl_map] at hbyte
  exact ⟨hbyte.acc, hbyte.bitCnt, hbyte.evbuf.trans (List.append_assoc ..).symm⟩

/-! ### A frame -/

namespace State

variable {s : State}

/-- The marks of a row of bytes give the bytes, in mode 1 each after its bits: by induction on the bytes
(R187). -/
theorem handleAll_bytes (bytes : List Byte) (hm : s.mode ≠ 0) (hacc : s.acc = 0) (hcnt : s.bitCnt = 0)
    (hroom : s.evbuf.length + 9 * bytes.length ≤ 4096) :
    (s.handleAll Config.hw ((bytes.flatMap bitsMsbFirst).map (markLen Config.hw))).evbuf =
      s.evbuf ++ bytes.flatMap fun v => s.bitEvents (bitsMsbFirst v) ++ [.byte v] := by
  induction bytes generalizing s with
  | nil => exact (List.append_nil _).symm
  | cons v bytes ih =>
    rw [List.length_cons] at hroom
    have hlen := s.length_bitEvents_le (bitsMsbFirst v)
    rw [length_bitsMsbFirst] at hlen
    obtain ⟨hacc', hcnt', hbuf⟩ := handleAll_byte v hm hacc hcnt (by omega)
    rw [List.flatMap_cons, List.map_append, handleAll_append,
      ih (by rwa [handleAll_mode]) hacc' hcnt' (by
        rw [hbuf, List.length_append, List.length_append, List.length_singleton]
        omega)]
    simp only [handleAll_bitEvents, hbuf, List.flatMap_cons, List.append_assoc]

/-- The marks of a frame give FRAME and then its bytes, whatever the decoder held before (R187). -/
theorem handleAll_frameMarks (bytes : List Byte) (hm : s.mode ≠ 0)
    (hroom : s.evbuf.length + 1 + 9 * bytes.length ≤ 4096) :
    (s.handleAll Config.hw (frameMarks Config.hw bytes)).evbuf =
      s.evbuf ++ [.frame] ++ bytes.flatMap fun v => s.bitEvents (bitsMsbFirst v) ++ [.byte v] := by
  have hsync : s.handle Config.hw 2400 =
      { s with evbuf := s.evbuf ++ [.frame], gapNoted := false, acc := 0, bitCnt := 0 } := by
    rw [handle_sync hm (by decide) (by decide), offered_of_room (by rw [List.length_singleton]; omega)]
  rw [frameMarks, handleAll_cons, Config.hw_tSync, hsync]
  exact handleAll_bytes bytes hm rfl rfl (by simpa using hroom)

end State

/-! ### Texts -/

/-- The lowercase hexadecimal digits in order (R188). -/
def hexDigits : List Char :=
  ['0', '1', '2', '3', '4', '5', '6', '7', '8', '9', 'a', 'b', 'c', 'd', 'e', 'f']

theorem hexDigit_eq_getD (x : BitVec 4) : hexDigit x = hexDigits.getD x.toNat 'x' := by
  revert x
  decide

/-- The two digits of a byte's text are those of its quotient and its remainder by 16 (R188). -/
theorem render_byte (v : Byte) :
    Event.render (.byte v) = String.ofList
      [hexDigits.getD (v.toNat / 16) 'x', hexDigits.getD (v.toNat % 16) 'x', ','] := by
  have hhigh : (v.extractLsb' 4 4).toNat = v.toNat / 16 := by
    rw [BitVec.extractLsb'_toNat, Nat.shiftRight_eq_div_pow]
    omega
  have hlow : (v.extractLsb' 0 4).toNat = v.toNat % 16 := BitVec.extractLsb'_toNat ..
  rw [Event.render, hexDigit_eq_getD, hexDigit_eq_getD, hhigh, hlow]

theorem render_raw (d : BitVec 16) :
    Event.render (.raw d) = String.ofList (Nat.toDigits 10 d.toNat ++ [',']) :=
  String.ofList_append.symm

theorem renderCapture_cons (e : Event) (es : List Event) :
    renderCapture (e :: es) = e.render ++ renderCapture es :=
  String.join_cons

/-- Settles O54: the texts with operands by their own lemmas, the fixed ones by evaluation. -/
theorem eventText : Obligations.EventText :=
  ⟨rfl, rfl, rfl, render_byte, render_raw, rfl, rfl, renderCapture_cons, by decide, by decide, by decide⟩

end Sys2Proof.Machine
end

section
/-!
PROOF. One tick of a capture (spec/42_receive.md R162 to R167): what the sample does in each measurement
step, and that neither the host's accesses nor the fields outside the decoder change it.
-/

namespace Sys2Proof.Machine

/-- The level of the samples that a measurement step counts, for the measured level `mi`; a sample of the
other level ends the step (R163 to R165). -/
def MeasStep.counted (mi : Level) : MeasStep → Level
  | .waitStart => !mi
  | _ => mi

namespace State

variable {c : Config} {s t : State} {l : Level} {d : Nat}

/-! ### The sample in each step -/

/-- Once the timeout has passed, the loop head ends the capture (R162, R167). -/
theorem monStep_of_timeout (hmp : s.mp = .top) (h : s.timeout ≤ s.el) :
    s.monStep c l = (s.countElapsed c).flush := by
  simp only [monStep, hmp, if_pos h]

/-- Before the timeout, the loop head's sample is the first of step A (R162, R163). -/
theorem monStep_of_top (hmp : s.mp = .top) (h : s.el < s.timeout) :
    s.monStep c l = (s.measuring c .waitOut 0).waitOutStep c l := by
  simp only [monStep, hmp, if_neg h.not_ge]
  rfl

/-- A loop head that finds a pulse in progress begins to wait it out. -/
theorem monStep_top_of_pulse (hmp : s.mp = .top) (h : s.el < s.timeout) (hl : l = s.mi)
    (hcap : 0 + 1 ≠ c.tMeasCap) : s.monStep c l = s.measuring c .waitOut 1 :=
  calc s.monStep c l = (s.measuring c .waitOut 0).countSample c :=
        (monStep_of_top hmp h).trans (if_pos hl)
    _ = s.measuring c .waitOut 1 := if_neg hcap

/-- A loop head that finds no pulse waits for one. -/
theorem monStep_top_of_gap (hmp : s.mp = .top) (h : s.el < s.timeout) (hl : l ≠ s.mi) :
    s.monStep c l = s.measuring c .waitStart 1 :=
  (monStep_of_top hmp h).trans (if_neg hl)

theorem monStep_of_waitOut (hmp : s.mp = .waitOut) :
    s.monStep c l = (s.measuring c .waitOut s.mc).waitOutStep c l := by
  rw [← countElapsed_eq_measuring hmp]
  simp only [monStep, hmp]

theorem monStep_of_waitStart (hmp : s.mp = .waitStart) :
    s.monStep c l = (s.measuring c .waitStart s.mc).waitStartStep c l := by
  rw [← countElapsed_eq_measuring hmp]
  simp only [monStep, hmp]

theorem monStep_of_time (hmp : s.mp = .time) :
    s.monStep c l = (s.measuring c .time s.mc).timeStep c l := by
  rw [← countElapsed_eq_measuring hmp]
  simp only [monStep, hmp]

/-- A sample that does not end its step is counted (R163 to R165). -/
theorem monStep_of_counted {m : MeasStep} (hm : m ≠ .top) (hmp : s.mp = m)
    (hl : l = m.counted s.mi) : s.monStep c l = (s.measuring c m s.mc).countSample c := by
  cases m with
  | top => exact absurd rfl hm
  | waitOut => exact (monStep_of_waitOut hmp).trans (if_pos hl)
  | waitStart =>
    exact (monStep_of_waitStart hmp).trans (if_neg fun h => Bool.not_ne_self _ (hl.symm.trans h))
  | time => exact (monStep_of_time hmp).trans (if_pos hl)

/-- The sample that ends a pulse in progress is the first of step B (R163). -/
theorem monStep_waitOut_of_edge (hmp : s.mp = .waitOut) (hl : l = !s.mi) :
    s.monStep c l = s.measuring c .waitStart 1 :=
  (monStep_of_waitOut hmp).trans (if_neg fun h => Bool.not_ne_self _ (hl.symm.trans h))

/-- The sample that starts a pulse is the first of step C (R164). -/
theorem monStep_waitStart_of_edge (hmp : s.mp = .waitStart) (hl : l = s.mi) :
    s.monStep c l = s.measuring c .time 1 :=
  (monStep_of_waitStart hmp).trans (if_pos hl)

/-- The sample that ends a pulse gives its length (R165). -/
theorem monStep_time_of_edge (hmp : s.mp = .time) (hl : l = !s.mi) :
    s.monStep c l = (s.measuring c .time s.mc).returnResult c s.mc :=
  (monStep_of_time hmp).trans (if_neg fun h => Bool.not_ne_self _ (hl.symm.trans h))

/-! ### The part of the state that a capture works on -/

/-- A tick of an operation leaves what the phase step leaves, but for the host's registers, the event
buffer and the inputs (R203). -/
theorem sendPart_of_step_busy (hbusy : s.phase ≠ .idle) (hn : s.NotReset) (h : step s = .next t) :
    t.sendPart = (s.phaseStep Config.hw s.sample).sendPart := by
  obtain ⟨w, rd, hr, rfl⟩ := step_cases_of_notReset hn h
  rw [hr.eq_phaseStep_of_busy hbusy]
  rfl

/-- The fields that a capture reads and writes, the event buffer with them, the rest put to its reset
values. -/
def monPart (s : State) : State := { s.sendPart with evbuf := s.evbuf }

/-- In a tick of a capture the host's accesses leave the capture's own part to its step (R203). -/
theorem monPart_of_step (hp : s.phase = .mon) (hrdy : s.evRdy = false) (hn : s.NotReset)
    (h : step s = .next t) : t.monPart = (s.monStep Config.hw s.sample).monPart := by
  have hbusy : s.phase ≠ .idle := by
    rw [hp]
    decide
  have hpart := sendPart_of_step_busy hbusy hn h
  have hbuf := step_evbuf_of_busy hbusy hn h
  rw [if_neg fun hread => by simp [hrdy] at hread, silentTick_eq, endTick_evbuf] at hbuf
  rw [← phaseStep_mon _ _ _ hp, monPart, hpart, hbuf]
  rfl

/-! ### The decoder's own part -/

/-- The fields that the decoder reads and writes, the rest put to its reset values. -/
def decoderPart (s : State) : State :=
  { reset with
    mode := s.mode, acc := s.acc, bitCnt := s.bitCnt, gapNoted := s.gapNoted, evbuf := s.evbuf
    evOvf := s.evOvf }

theorem decoder_fields_of_decoderPart (h : s.decoderPart = t.decoderPart) :
    s.acc = t.acc ∧ s.bitCnt = t.bitCnt ∧ s.gapNoted = t.gapNoted ∧ s.evbuf = t.evbuf ∧
      s.evOvf = t.evOvf :=
  ⟨(congrArg State.acc h :), (congrArg State.bitCnt h :), (congrArg State.gapNoted h :),
    (congrArg State.evbuf h :), (congrArg State.evOvf h :)⟩

theorem emit_decoderPart (e : Event) : (s.emit c e).decoderPart = s.decoderPart.emit c e := by
  simp only [emit, apply_ite decoderPart]
  rfl

theorem emitBit_decoderPart (b : Bool) : (s.emitBit c b).decoderPart = s.decoderPart.emitBit c b := by
  simp only [emitBit, apply_ite decoderPart, emit_decoderPart]
  rfl

theorem clearByte_decoderPart : s.clearByte.decoderPart = s.decoderPart.clearByte := rfl

theorem advanceBit_decoderPart : (s.advanceBit c).decoderPart = s.decoderPart.advanceBit c := by
  simp only [advanceBit, apply_ite decoderPart, clearByte_decoderPart, emit_decoderPart]
  rfl

theorem onNoSignal_decoderPart : (s.onNoSignal c).decoderPart = s.decoderPart.onNoSignal c := by
  have hbreak : (s.clearByte.emit c .lineBreak).noteGap.decoderPart =
      (s.clearByte.emit c .lineBreak).decoderPart.noteGap := rfl
  simp only [onNoSignal, apply_ite decoderPart, hbreak, emit_decoderPart]
  rfl

theorem onSymbol_decoderPart (y : Symbol) :
    (s.onSymbol c y).decoderPart = s.decoderPart.onSymbol c y := by
  cases y with
  | sync => exact congrArg clearByte (emit_decoderPart _)
  | one =>
    simp only [onSymbol, onOne, advanceBit_decoderPart, emitBit_decoderPart]
    rfl
  | zero => simp only [onSymbol, onZero, advanceBit_decoderPart, emitBit_decoderPart]
  | unknown => rfl

/-- A result works on the decoder's own fields alone (R166). -/
theorem handle_decoderPart (d : Nat) : (s.handle c d).decoderPart = s.decoderPart.handle c d := by
  simp only [handle, apply_ite decoderPart, onNoSignal_decoderPart, onSymbol_decoderPart, onRaw,
    emit_decoderPart]
  rfl

end State

/-- Settles O45: by whether the timeout has passed, and then by the sample. -/
theorem monitorLoopHead : Obligations.MonitorLoopHead := by
  intro s hp hmp hsilent base
  have hphase := State.phaseStep_mon Config.hw s s.sample hp
  by_cases htimeout : s.timeout ≤ s.el
  · rw [if_pos htimeout]
    exact step_of_silent_of_phaseStep hsilent (hphase.trans (State.monStep_of_timeout hmp htimeout))
  · have hwait : s.el < s.timeout := Nat.lt_of_not_le htimeout
    rw [if_neg htimeout]
    by_cases hl : s.sample = s.mi
    · rw [if_pos hl]
      exact step_of_silent_of_phaseStep hsilent
        (hphase.trans (State.monStep_top_of_pulse hmp hwait hl (by decide)))
    · rw [if_neg hl]
      exact step_of_silent_of_phaseStep hsilent (hphase.trans (State.monStep_top_of_gap hmp hwait hl))

end Sys2Proof.Machine
end

section
/-!
PROOF. The measurement of a pulse over a row of samples (spec/42_receive.md R163 to R166): the samples that
a step counts, its cap, and the results 0 and d.
-/

namespace Sys2Proof.Machine

namespace State

variable {s u v : State} {j k n d : Nat} {m m' : MeasStep} {l : Level} {ls : List Level}

/-- `u` is `j` ticks after `s` in the same capture, in the measurement step `m` with `k` samples counted,
and its decoder is that of `s`. -/
structure Capturing (s : State) (j : Nat) (m : MeasStep) (k : Nat) (u : State) : Prop where
  phase : u.phase = .mon
  unread : u.evRdy = false
  mp : u.mp = m
  mc : u.mc = k
  mi : u.mi = s.mi
  timeout : u.timeout = s.timeout
  el : u.el = elapsedAfter Config.hw s.el j
  decoder : u.decoderPart = s.decoderPart

theorem Capturing.refl (hp : s.phase = .mon) (hrdy : s.evRdy = false) : s.Capturing 0 s.mp s.mc s :=
  ⟨hp, hrdy, rfl, rfl, rfl, rfl, rfl, rfl⟩

/-! ### One tick -/

/-- A tick that goes on measuring keeps the decoder. -/
theorem Capturing.step_measuring (hu : s.Capturing j m k u)
    (h : v.monPart = (u.measuring Config.hw m' n).monPart) : s.Capturing (j + 1) m' n v where
  phase := (congrArg State.phase h).trans hu.phase
  unread := (congrArg State.evRdy h).trans hu.unread
  mp := (congrArg State.mp h :)
  mc := (congrArg State.mc h :)
  mi := (congrArg State.mi h).trans hu.mi
  timeout := (congrArg State.timeout h).trans hu.timeout
  el := (congrArg State.el h).trans (congrArg (fun e => saturate Config.hw (e + 1)) hu.el)
  decoder := (congrArg State.decoderPart h).trans hu.decoder

/-- A tick that gives a result hands it to the decoder and is back at the loop head. -/
theorem Capturing.step_result (hu : s.Capturing j m k u)
    (h : v.monPart = ((u.measuring Config.hw m' n).returnResult Config.hw d).monPart) :
    (s.handle Config.hw d).Capturing (j + 1) .top 0 v where
  phase := (congrArg State.phase h).trans ((returnResult_phase ..).trans hu.phase)
  unread := (congrArg State.evRdy h).trans ((returnResult_evRdy ..).trans hu.unread)
  mp := (congrArg State.mp h :)
  mc := (congrArg State.mc h :)
  mi := by
    rw [handle_mi]
    exact (congrArg State.mi h).trans ((returnResult_mi ..).trans hu.mi)
  timeout := by
    rw [handle_timeout]
    exact (congrArg State.timeout h).trans ((returnResult_timeout ..).trans hu.timeout)
  el := by
    rw [handle_el]
    exact (congrArg State.el h).trans ((returnResult_el ..).trans
      (congrArg (fun e => saturate Config.hw (e + 1)) hu.el))
  decoder := by
    have hpart : v.decoderPart = ((u.measuring Config.hw m' n).handle Config.hw d).decoderPart :=
      (congrArg State.decoderPart h :)
    rw [hpart, handle_decoderPart, handle_decoderPart]
    exact congrArg (State.handle Config.hw d) hu.decoder

theorem Capturing.exists_step (hu : s.Capturing j m k u) (hn : u.NotReset) (hline : LineReads (l :: ls) u) :
    ∃ v, RunsTo 1 u v ∧ LineReads ls v ∧ v.monPart = (u.monStep Config.hw l).monPart := by
  obtain ⟨v, e, -⟩ := everyStepAnswersNext u
  have hpart := monPart_of_step hu.phase hu.unread hn e
  rw [hline.sample] at hpart
  exact ⟨v, .cons e (runsTo_zero v), hline.step e, hpart⟩

theorem Capturing.tick_measuring (hu : s.Capturing j m k u) (hn : u.NotReset)
    (hline : LineReads (l :: ls) u) (h : u.monStep Config.hw l = u.measuring Config.hw m' n) :
    ∃ v, RunsTo 1 u v ∧ LineReads ls v ∧ s.Capturing (j + 1) m' n v := by
  obtain ⟨v, hrun, hls, hpart⟩ := hu.exists_step hn hline
  rw [h] at hpart
  exact ⟨v, hrun, hls, hu.step_measuring hpart⟩

theorem Capturing.tick_result (hu : s.Capturing j m k u) (hn : u.NotReset)
    (hline : LineReads (l :: ls) u)
    (h : u.monStep Config.hw l = (u.measuring Config.hw m' n).returnResult Config.hw d) :
    ∃ v, RunsTo 1 u v ∧ LineReads ls v ∧ (s.handle Config.hw d).Capturing (j + 1) .top 0 v := by
  obtain ⟨v, hrun, hls, hpart⟩ := hu.exists_step hn hline
  rw [h] at hpart
  exact ⟨v, hrun, hls, hu.step_result hpart⟩

/-- Below the cap, a sample that does not end its step is counted (R163 to R165). -/
theorem Capturing.tick_count (hu : s.Capturing j m k u) (hm : m ≠ .top) (hk : k + 1 < 3000)
    (hn : u.NotReset) (hline : LineReads (m.counted s.mi :: ls) u) :
    ∃ v, RunsTo 1 u v ∧ LineReads ls v ∧ s.Capturing (j + 1) m (k + 1) v := by
  refine hu.tick_measuring hn hline ?_
  rw [monStep_of_counted hm hu.mp (by rw [hu.mi]), hu.mc]
  exact if_neg hk.ne

/-- At the cap, a sample that does not end its step gives the result 0 (R163 to R165). -/
theorem Capturing.tick_cap (hu : s.Capturing j m 2999 u) (hm : m ≠ .top)
    (hn : u.NotReset) (hline : LineReads (m.counted s.mi :: ls) u) :
    ∃ v, RunsTo 1 u v ∧ LineReads ls v ∧ (s.handle Config.hw 0).Capturing (j + 1) .top 0 v := by
  refine hu.tick_result (m' := m) (n := 3000) hn hline ?_
  rw [monStep_of_counted hm hu.mp (by rw [hu.mi]), hu.mc]
  rfl

/-- The loop head of a capture that goes on, on a sample of a pulse in progress (R162, R163). -/
theorem Capturing.tick_top_of_pulse (hu : s.Capturing j .top k u) (hel : u.el < u.timeout)
    (hn : u.NotReset) (hline : LineReads (s.mi :: ls) u) :
    ∃ v, RunsTo 1 u v ∧ LineReads ls v ∧ s.Capturing (j + 1) .waitOut 1 v :=
  hu.tick_measuring hn hline (monStep_top_of_pulse hu.mp hel hu.mi.symm (by decide))

/-- The loop head of a capture that goes on, on a sample between pulses (R162, R163). -/
theorem Capturing.tick_top_of_gap (hu : s.Capturing j .top k u) (hel : u.el < u.timeout)
    (hn : u.NotReset) (hline : LineReads ((!s.mi) :: ls) u) :
    ∃ v, RunsTo 1 u v ∧ LineReads ls v ∧ s.Capturing (j + 1) .waitStart 1 v :=
  hu.tick_measuring hn hline
    (monStep_top_of_gap hu.mp hel (by rw [hu.mi]; exact Bool.not_ne_self _))

theorem Capturing.tick_waitOut_end (hu : s.Capturing j .waitOut k u) (hn : u.NotReset)
    (hline : LineReads ((!s.mi) :: ls) u) :
    ∃ v, RunsTo 1 u v ∧ LineReads ls v ∧ s.Capturing (j + 1) .waitStart 1 v :=
  hu.tick_measuring hn hline (monStep_waitOut_of_edge hu.mp (by rw [hu.mi]))

theorem Capturing.tick_waitStart_end (hu : s.Capturing j .waitStart k u) (hn : u.NotReset)
    (hline : LineReads (s.mi :: ls) u) :
    ∃ v, RunsTo 1 u v ∧ LineReads ls v ∧ s.Capturing (j + 1) .time 1 v :=
  hu.tick_measuring hn hline (monStep_waitStart_of_edge hu.mp hu.mi.symm)

theorem Capturing.tick_time_end (hu : s.Capturing j .time k u) (hn : u.NotReset)
    (hline : LineReads ((!s.mi) :: ls) u) :
    ∃ v, RunsTo 1 u v ∧ LineReads ls v ∧ (s.handle Config.hw k).Capturing (j + 1) .top 0 v := by
  have hstep := monStep_time_of_edge (c := Config.hw) (l := !s.mi) hu.mp (by rw [hu.mi])
  rw [hu.mc] at hstep
  exact hu.tick_result hn hline hstep

/-! ### A row of samples -/

/-- A step counts `n` samples that do not end it, below its cap: by induction on `n` (R163 to R165). -/
theorem Capturing.runs_count (hu : s.Capturing j m k u) (hm : m ≠ .top) (n : Nat) (hk : k + n < 3000)
    (hn : NoReset n u) (hline : LineReads (List.replicate n (m.counted s.mi) ++ ls) u) :
    ∃ v, RunsTo n u v ∧ LineReads ls v ∧ s.Capturing (j + n) m (k + n) v := by
  induction n generalizing u j k with
  | zero => exact ⟨u, runsTo_zero u, hline, hu⟩
  | succ n ih =>
    rw [List.replicate_succ, List.cons_append] at hline
    obtain ⟨v, hrun, hls, hv⟩ := hu.tick_count hm (by omega) (hn.notReset n.succ_pos) hline
    rw [Nat.add_comm] at hn ⊢
    obtain ⟨w, hrest, hls', hw⟩ := ih hv (by omega) (hn.runsTo hrun) hls
    rw [Nat.add_assoc, Nat.add_assoc] at hw
    exact ⟨w, hrun.trans hrest, hls', hw⟩

/-- A step that is not ended before its cap gives the result 0 there (R163 to R165). -/
theorem Capturing.runs_cap (hu : s.Capturing j m k u) (hm : m ≠ .top) (hk : k < 3000)
    (hn : NoReset (3000 - k) u)
    (hline : LineReads (List.replicate (3000 - k) (m.counted s.mi) ++ ls) u) :
    ∃ v, RunsTo (3000 - k) u v ∧ LineReads ls v ∧
      (s.handle Config.hw 0).Capturing (j + (3000 - k)) .top 0 v := by
  have hsplit : 3000 - k = 2999 - k + 1 := by omega
  rw [hsplit] at hn hline ⊢
  rw [List.replicate_succ', List.append_assoc] at hline
  obtain ⟨v, hrun, hls, hv⟩ := hu.runs_count hm (2999 - k) (by omega) (hn.mono (Nat.le_succ _)) hline
  rw [show k + (2999 - k) = 2999 by omega] at hv
  obtain ⟨w, hlast, hls', hw⟩ := hv.tick_cap hm ((hn.runsTo hrun).notReset Nat.one_pos) hls
  exact ⟨w, hrun.trans hlast, hls', hw⟩

/-- A whole pulse of `d` samples below the cap is measured as `d` (R164, R165). -/
theorem Capturing.runs_pulse (hu : s.Capturing j .waitStart k u) (hd : 1 ≤ d) (hcap : d ≤ 2999)
    (hn : NoReset (d + 1) u) (hline : LineReads (List.replicate d s.mi ++ (!s.mi) :: ls) u) :
    ∃ v, RunsTo (d + 1) u v ∧ LineReads ls v ∧
      (s.handle Config.hw d).Capturing (j + (d + 1)) .top 0 v := by
  obtain ⟨n, rfl⟩ : ∃ n, d = 1 + n := ⟨d - 1, by omega⟩
  rw [List.replicate_add, List.append_assoc] at hline
  obtain ⟨a, hstart, hlsa, ha⟩ := hu.tick_waitStart_end (hn.notReset (Nat.succ_pos _)) hline
  rw [Nat.add_assoc 1 n 1] at hn ⊢
  have hna := hn.runsTo hstart
  obtain ⟨b, hcount, hlsb, hb⟩ := ha.runs_count (by decide) n (by omega) (hna.mono (Nat.le_succ n)) hlsa
  obtain ⟨v, hend, hls, hv⟩ := hb.tick_time_end ((hna.runsTo hcount).notReset Nat.one_pos) hlsb
  rw [Nat.add_assoc, Nat.add_assoc] at hv
  exact ⟨v, hstart.trans (hcount.trans hend), hls, hv⟩

/-! ### What is returned -/

theorem Capturing.returnsResult (h : (s.handle Config.hw d).Capturing j .top 0 v) :
    s.ReturnsResult d v :=
  ⟨h.phase, h.mp, h.mc, decoder_fields_of_decoderPart h.decoder⟩

/-- The first of a row of samples at one level, and the others. -/
theorem lineReads_cons_of_replicate (h : LineReads (List.replicate (n + 1) l) s) :
    LineReads (l :: (List.replicate n l ++ [])) s := by
  rwa [List.append_nil, ← List.replicate_succ]

/-- Samples of either level from the loop head of a capture that goes on give the result 0 at the cap of
the step they are counted in (R162 to R164). -/
theorem Capturing.runs_level_of_top (hu : s.Capturing j .top k u) (hel : u.el < u.timeout)
    (hn : NoReset 3000 u) (hline : LineReads (List.replicate 3000 l) u) :
    ∃ v, RunsTo 3000 u v ∧ s.ReturnsResult 0 v := by
  have hn0 : u.NotReset := hn.notReset (by decide)
  have hline := lineReads_cons_of_replicate (n := 2999) hline
  by_cases hl : l = s.mi
  · subst hl
    obtain ⟨v, hrun, hls, hv⟩ := hu.tick_top_of_pulse hel hn0 hline
    obtain ⟨w, hcap, -, hw⟩ := hv.runs_cap (by decide) (by decide) (hn.runsTo (n := 2999) hrun) hls
    exact ⟨w, hrun.trans hcap, hw.returnsResult⟩
  · obtain rfl : l = !s.mi := Bool.eq_not.2 hl
    obtain ⟨v, hrun, hls, hv⟩ := hu.tick_top_of_gap hel hn0 hline
    obtain ⟨w, hcap, -, hw⟩ := hv.runs_cap (by decide) (by decide) (hn.runsTo (n := 2999) hrun) hls
    exact ⟨w, hrun.trans hcap, hw.returnsResult⟩

end State

/-- Settles O50: the first sample of the pulse, the others, and the one that ends it. -/
theorem wholePulseMeasured : Obligations.WholePulseMeasured := by
  intro s d hp hmp hrdy hd hcap hn hline
  have hs := State.Capturing.refl hp hrdy
  rw [hmp] at hs
  obtain ⟨t, hrun, -, ht⟩ := hs.runs_pulse hd hcap hn hline
  exact ⟨t, hrun, ht.returnsResult⟩

/-- Settles O59: each step by the samples that it counts up to its cap or up to the one that ends it. -/
theorem measurementCapGivesZero : Obligations.MeasurementCapGivesZero := by
  intro s hp hrdy
  have hs := State.Capturing.refl hp hrdy
  refine ⟨fun b hmp hel hn hline => ?_, fun b hstep hmc hn hline => ?_, fun hmp hn hline => ?_,
    fun d hmp hmc hn hline => ?_⟩
  · rw [hmp] at hs
    exact hs.runs_level_of_top hel hn hline
  · have hm : s.mp ≠ .top ∧ b = s.mp.counted s.mi := by
      rcases hstep with ⟨hmp, rfl⟩ | ⟨hmp, rfl⟩ | ⟨hmp, rfl⟩ <;> rw [hmp] <;>
        exact ⟨by decide, rfl⟩
    obtain ⟨hm, rfl⟩ := hm
    obtain ⟨t, hrun, -, ht⟩ := hs.runs_cap hm hmc hn (by rwa [List.append_nil])
    exact ⟨t, hrun, ht.returnsResult⟩
  · rw [hmp] at hs
    obtain ⟨u, hstart, hls, hu⟩ := hs.tick_waitStart_end (hn.notReset (by decide))
      (State.lineReads_cons_of_replicate (n := 2999) hline)
    obtain ⟨t, hcap, -, ht⟩ := hu.runs_cap (by decide) (by decide) (hn.runsTo (n := 2999) hstart) hls
    exact ⟨t, hstart.trans hcap, ht.returnsResult⟩
  · rw [hmp] at hs
    obtain ⟨u, hcount, hls, hu⟩ := hs.runs_count (by decide) d hmc (hn.mono (Nat.le_succ d)) hline
    obtain ⟨t, hend, -, ht⟩ := hu.tick_waitOut_end ((hn.runsTo hcount).notReset Nat.one_pos) hls
    exact ⟨t, hcount.trans hend, ht.phase, ht.mp, ht.mc,
      State.decoder_fields_of_decoderPart ht.decoder⟩

end Sys2Proof.Machine
end

section
/-!
PROOF. A whole capture (spec/42_receive.md R187, R190): the frame of another block as a row of pulses and
gaps, and the time within which a capture ends.
-/

namespace Sys2Proof.Machine

/-! ### The samples of a frame -/

/-- The samples of a row of marks, each with its delimiter (R141). -/
def markSamples (c : Config) (marks : List Nat) : List Level :=
  marks.flatMap fun m => List.replicate m false ++ List.replicate c.tDelim true

/-- The level of a row of marks, tick by tick: by induction on the marks. -/
theorem map_levelAt_range (c : Config) (marks : List Nat) :
    (List.range (marksLen c marks)).map (levelAt c marks) = markSamples c marks := by
  induction marks with
  | nil => rfl
  | cons m marks ih =>
    have hmark : (List.range m).map (levelAt c (m :: marks)) = List.replicate m false :=
      List.eq_replicate_iff.2 ⟨by simp, by
        simp only [List.mem_map, List.mem_range]
        rintro b ⟨k, hk, rfl⟩
        exact levelAt_mark hk⟩
    have hdelim : (List.range c.tDelim).map (levelAt c (m :: marks) ∘ (m + ·)) =
        List.replicate c.tDelim true :=
      List.eq_replicate_iff.2 ⟨by simp, by
        simp only [List.mem_map, List.mem_range]
        rintro b ⟨k, hk, rfl⟩
        exact levelAt_delimiter hk⟩
    have hlater : levelAt c (m :: marks) ∘ (m + c.tDelim + ·) = levelAt c marks :=
      funext fun _ => levelAt_later
    rw [marksLen_cons, List.range_add, List.range_add, List.map_append, List.map_append, List.map_map,
      List.map_map, hmark, hdelim, hlater, ih]
    rfl

/-- Every mark of a frame is a pulse below the cap (R80 to R83). -/
theorem frameMarks_hw_bounds {bytes : List Byte} {m : Nat} (h : m ∈ frameMarks Config.hw bytes) :
    1 ≤ m ∧ m ≤ 2999 := by
  rcases List.mem_cons.1 h with rfl | h
  · decide
  · obtain ⟨b, -, rfl⟩ := List.mem_map.1 h
    cases b <;> decide

/-! ### The capture of a frame -/

namespace State

variable {s t u v : State} {j k d : Nat} {ls : List Level}

/-- Between two pulses the loop head goes on to wait for the next one (R162 to R164). -/
theorem Capturing.runs_gap (hu : s.Capturing j .top k u) (hel : u.el < u.timeout) (n : Nat)
    (hcap : n < 2999) (hn : NoReset (1 + n) u)
    (hline : LineReads (List.replicate (1 + n) (!s.mi) ++ ls) u) :
    ∃ v, RunsTo (1 + n) u v ∧ LineReads ls v ∧ s.Capturing (j + (1 + n)) .waitStart (1 + n) v := by
  rw [List.replicate_add, List.append_assoc] at hline
  obtain ⟨a, hhead, hlsa, ha⟩ := hu.tick_top_of_gap hel (hn.notReset (by omega)) hline
  obtain ⟨v, hcount, hls, hv⟩ := ha.runs_count (by decide) n (by omega) (hn.runsTo hhead) hlsa
  rw [Nat.add_assoc] at hv
  exact ⟨v, hhead.trans hcount, hls, hv⟩

/-- A mark and its delimiter give the mark's length as a result, and the capture waits for the next pulse
(R163 to R166). -/
theorem Capturing.runs_mark (hu : s.Capturing j .waitStart k u) (hmi : s.mi = false) (hd : 1 ≤ d)
    (hcap : d ≤ 2999) (hel : s.el + (j + (d + 600)) ≤ s.timeout) (hmax : s.timeout ≤ 4294967295)
    (hn : NoReset (d + 600) u)
    (hline : LineReads (List.replicate d false ++ List.replicate 600 true ++ ls) u) :
    ∃ v k, RunsTo (d + 600) u v ∧ LineReads ls v ∧
      (s.handle Config.hw d).Capturing (j + (d + 600)) .waitStart k v := by
  rw [show d + 600 = d + 1 + (1 + 598) by omega] at hn ⊢
  rw [show 600 = 1 + (1 + 598) by rfl, List.replicate_add 1, List.append_assoc, List.append_assoc] at hline
  obtain ⟨a, hpulse, hlsa, ha⟩ := hu.runs_pulse hd hcap (hn.mono (Nat.le_add_right ..)) (by rwa [hmi])
  have hwait : a.el < a.timeout := by
    rw [ha.el, ha.timeout, handle_el, handle_timeout, elapsedAfter_hw_of_le (by omega)]
    omega
  obtain ⟨v, hgap, hls, hv⟩ := ha.runs_gap hwait 598 (by decide) (hn.runsTo hpulse)
    (by rwa [handle_mi, hmi])
  rw [Nat.add_assoc] at hv
  exact ⟨v, _, hpulse.trans hgap, hls, hv⟩

/-- A row of marks hands their lengths to the decoder in order: by induction on the marks (R187). -/
theorem Capturing.runs_marks (marks : List Nat) (hu : s.Capturing j .waitStart k u) (hmi : s.mi = false)
    (hmarks : ∀ m ∈ marks, 1 ≤ m ∧ m ≤ 2999)
    (hel : s.el + (j + marksLen Config.hw marks) ≤ s.timeout) (hmax : s.timeout ≤ 4294967295)
    (hn : NoReset (marksLen Config.hw marks) u) (hline : LineReads (markSamples Config.hw marks) u) :
    ∃ v k, RunsTo (marksLen Config.hw marks) u v ∧
      (s.handleAll Config.hw marks).Capturing (j + marksLen Config.hw marks) .waitStart k v := by
  induction marks generalizing s j k u with
  | nil => exact ⟨u, k, runsTo_zero u, hu⟩
  | cons m marks ih =>
    obtain ⟨⟨hpos, hcap⟩, hmarks⟩ := List.forall_mem_cons.1 hmarks
    rw [marksLen_cons, Config.hw_tDelim] at hel hn ⊢
    obtain ⟨a, n, hfirst, hlsa, ha⟩ := hu.runs_mark hmi hpos hcap (by omega) hmax
      (hn.mono (Nat.le_add_right ..)) hline
    obtain ⟨v, n', hrest, hv⟩ := ih ha (by rwa [handle_mi]) hmarks
      (by rw [handle_el, handle_timeout]; omega) (by rwa [handle_timeout]) (hn.runsTo hfirst) hlsa
    rw [Nat.add_assoc] at hv
    exact ⟨v, n', hfirst.trans hrest, hv⟩

end State

/-- Settles O52: the samples of the frame as a row of marks, and the marks through the decoder. -/
theorem captureReconstructsFrame : Obligations.CaptureReconstructsFrame := by
  intro s bytes hp hmp hmi hm hrdy _ _ hroom hel hmax hn hline
  have hs := State.Capturing.refl hp hrdy
  rw [hmp] at hs
  obtain ⟨t, k, hrun, ht⟩ := hs.runs_marks (frameMarks Config.hw bytes) hmi
    (fun _ => frameMarks_hw_bounds) (by rw [Nat.zero_add]; exact hel) hmax hn
    (map_levelAt_range Config.hw (frameMarks Config.hw bytes) ▸ hline)
  obtain ⟨-, -, -, hbuf, -⟩ := State.decoder_fields_of_decoderPart ht.decoder
  exact ⟨t, hrun, ht.phase,
    hbuf.trans (State.handleAll_frameMarks bytes (State.mode_ne_zero hm) hroom)⟩

/-! ### The end of a capture -/

namespace State

variable {s t u v : State}

/-- How many ticks a measurement can still last after `k` samples of the step `m`: what is left of that
step, and the steps that can follow (R163 to R165). -/
def ticksLeft (m : MeasStep) (k : Nat) : Nat :=
  match m with
  | .top => 0
  | .waitOut => 8998 - k
  | .waitStart => 5999 - k
  | .time => 3000 - k

theorem ticksLeft_pos {m : MeasStep} {k : Nat} (hm : m ≠ .top) (hk : k < 3000) : 0 < ticksLeft m k := by
  cases m with
  | top => exact absurd rfl hm
  | waitOut | waitStart | time => simp only [ticksLeft]; omega

theorem ticksLeft_succ_lt {m : MeasStep} {k : Nat} (hm : m ≠ .top) (hk : k < 3000) :
    ticksLeft m (k + 1) < ticksLeft m k := by
  cases m with
  | top => exact absurd rfl hm
  | waitOut | waitStart | time => simp only [ticksLeft]; omega

/-- No measurement is in progress, or one that is below its step's cap and lasts at most `n` more ticks. -/
structure MeasuresWithin (n : Nat) (s : State) : Prop where
  belowCap : s.mp = .top ∨ s.mc < 3000
  left : ticksLeft s.mp s.mc ≤ n

theorem measuresWithin_measuring {m : MeasStep} {k n : Nat} (hk : k < 3000) (hn : ticksLeft m k ≤ n) :
    (s.measuring Config.hw m k).MeasuresWithin n :=
  ⟨.inr hk, hn⟩

theorem measuresWithin_returnResult {d n : Nat} : (s.returnResult Config.hw d).MeasuresWithin n :=
  ⟨.inl rfl, Nat.zero_le n⟩

/-- A counted sample brings the end of the measurement nearer (R163 to R165). -/
theorem countSample_measuresWithin {m : MeasStep} {k n : Nat} (hm : m ≠ .top) (hk : k < 3000)
    (hn : ticksLeft m k ≤ n + 1) :
    ((s.measuring Config.hw m k).countSample Config.hw).MeasuresWithin n := by
  have hleft : ticksLeft m (k + 1) ≤ n := Nat.le_of_lt_succ ((ticksLeft_succ_lt hm hk).trans_le hn)
  rcases countSample_cases Config.hw (s.measuring Config.hw m k) with ⟨-, e⟩ | ⟨hcap, e⟩ <;> rw [e]
  · exact measuresWithin_returnResult
  · exact ⟨.inr (Nat.lt_of_le_of_ne hk hcap), hleft⟩

/-- Each tick of a measurement brings its end nearer, whatever the sample (R163 to R165). -/
theorem monStep_measuresWithin {l : Level} {n : Nat} (hm : s.mp ≠ .top)
    (h : s.MeasuresWithin (n + 1)) : (s.monStep Config.hw l).MeasuresWithin n := by
  obtain ⟨hcap, hleft⟩ := h
  have hk : s.mc < 3000 := hcap.resolve_left hm
  by_cases hl : l = s.mp.counted s.mi
  · rw [monStep_of_counted hm rfl hl]
    exact countSample_measuresWithin hm hk hleft
  · have hedge : l = !s.mp.counted s.mi := Bool.eq_not.2 hl
    cases hmp : s.mp with
    | top => exact absurd hmp hm
    | waitOut =>
      rw [hmp] at hedge hleft
      rw [monStep_waitOut_of_edge hmp hedge]
      exact measuresWithin_measuring (by decide) (by simp only [ticksLeft] at hleft ⊢; omega)
    | waitStart =>
      rw [hmp] at hedge hleft
      rw [monStep_waitStart_of_edge hmp (hedge.trans (Bool.not_not _))]
      exact measuresWithin_measuring (by decide) (by simp only [ticksLeft] at hleft ⊢; omega)
    | time =>
      rw [hmp] at hedge
      rw [monStep_time_of_edge hmp hedge]
      exact measuresWithin_returnResult

/-- A measurement that starts in this tick ends within 8997 more (R162 to R165). -/
theorem monStep_top_measuresWithin {l : Level} (hmp : s.mp = .top) (h : s.el < s.timeout) :
    (s.monStep Config.hw l).MeasuresWithin 8997 := by
  by_cases hl : l = s.mi
  · rw [monStep_top_of_pulse hmp h hl (by decide)]
    exact measuresWithin_measuring (by decide) (by decide)
  · rw [monStep_top_of_gap hmp h hl]
    exact measuresWithin_measuring (by decide) (by decide)

/-- `u` is `j` ticks into a capture of the timeout `n`, and the measurement in progress, if there is one,
began before the timeout. -/
structure Ending (n j : Nat) (u : State) : Prop where
  phase : u.phase = .mon
  timeout : u.timeout = n
  el : u.el = min j 4294967295
  bound : j ≤ n + 8998
  measures : u.MeasuresWithin (n + 8998 - j)

/-- A tick that stays in the capture, and whose measurement ends in time, goes on with it. -/
theorem Ending.step_mon {n j : Nat} (hu : u.Ending n j)
    (hpart : v.sendPart = (u.monStep Config.hw u.sample).sendPart)
    (hmon : (u.monStep Config.hw u.sample).phase = u.phase) (hbound : j + 1 ≤ n + 8998)
    (hmeasures : (u.monStep Config.hw u.sample).MeasuresWithin (n + 8998 - (j + 1))) :
    v.Ending n (j + 1) where
  phase := (congrArg State.phase hpart).trans (hmon.trans hu.phase)
  timeout := (congrArg State.timeout hpart).trans ((monStep_timeout ..).trans hu.timeout)
  el := by
    have hcount : v.el = min (u.el + 1) 4294967295 :=
      (congrArg State.el hpart).trans (monStep_el ..)
    have hel := hu.el
    omega
  bound := hbound
  measures := by
    have hmp : v.mp = (u.monStep Config.hw u.sample).mp := (congrArg State.mp hpart :)
    have hmc : v.mc = (u.monStep Config.hw u.sample).mc := (congrArg State.mc hpart :)
    obtain ⟨hcap, hleft⟩ := hmeasures
    exact ⟨by rwa [hmp, hmc], by rwa [hmp, hmc]⟩

/-- Each tick of a capture goes on with it, or ends it at the loop head once the timeout has passed (R162,
R167). -/
theorem Ending.step {n j : Nat} (hu : u.Ending n j) (hmax : n ≤ 4294967295) (hn : u.NotReset)
    (h : Machine.step u = .next v) :
    v.Ending n (j + 1) ∨
      (n + 1 ≤ j + 1 ∧ j + 1 ≤ n + 9000 ∧ v.phase = .idle ∧ v.evRdy = true) := by
  have hpart := sendPart_of_step_busy (by rw [hu.phase]; decide) hn h
  rw [phaseStep_mon _ _ _ hu.phase] at hpart
  have hto := hu.timeout
  have hel := hu.el
  have hbound := hu.bound
  have hmeasures := hu.measures
  rcases monStep_exit Config.hw u u.sample with ⟨hmp, htimeout, e⟩ | ⟨hexit, hmon, -⟩
  · rw [e] at hpart
    exact .inr ⟨by omega, by omega, (congrArg State.phase hpart :), (congrArg State.evRdy hpart :)⟩
  · by_cases hmp : u.mp = .top
    · have hwait : u.el < u.timeout := Nat.lt_of_not_le fun hle => hexit ⟨hmp, hle⟩
      obtain ⟨hcap, hleft⟩ := monStep_top_measuresWithin (l := u.sample) hmp hwait
      exact .inl (hu.step_mon hpart hmon (by omega) ⟨hcap, by omega⟩)
    · have hpos := ticksLeft_pos hmp (hmeasures.belowCap.resolve_left hmp)
      have hleft := hmeasures.left
      rw [show n + 8998 - j = n + 8998 - (j + 1) + 1 by omega] at hmeasures
      exact .inl (hu.step_mon hpart hmon (by omega) (monStep_measuresWithin hmp hmeasures))

end State

/-- Settles O53: a capture that has not ended is within a measurement that began before the timeout, or at
the loop head after one; and each tick goes on with it or ends it. -/
theorem captureEnds : Obligations.CaptureEnds := by
  intro s hp hmp hel hmax hn
  have h0 : s.Ending s.timeout 0 := ⟨hp, rfl, hel, Nat.zero_le _, .inl hmp, by
    rw [hmp]
    exact Nat.zero_le _⟩
  obtain ⟨k, -, t, hrun, hlow, hhigh, hidle, hrdy⟩ := RunsThrough.exists_exit
    (P := fun j u => u.Ending s.timeout j)
    (Q := fun j u => s.timeout + 1 ≤ j ∧ j ≤ s.timeout + 9000 ∧ u.phase = .idle ∧ u.evRdy = true)
    (s.timeout + 9000) hn h0
    (fun _ _ hu => by
      have hbound := hu.bound
      omega)
    (fun _ _ _ hu hnr h => hu.step hmax hnr h)
  exact ⟨k, hlow, hhigh, (hrun.imp fun _ _ _ hu => hu.phase).through, t, hrun.runs, hidle, hrdy⟩

end Sys2Proof.Machine
end

section
/-!
PROOF. The rejection of a command word (spec/60_exceptions.md R200 to R203): the reason that the decoder
gives and the cause that CheckCommand records, the tick that rejects, the tests on the word as masks
(spec/30_encoding.md R72 to R79), and how long a report stays (spec/10_state.md R47).
-/

namespace Sys2Proof.Machine

/-! ### The decoder's reasons -/

section
variable {c : Config} {cw : CommandWord}

theorem decodeCommand_of_opReserved (hop : opReserved c cw = true) :
    decodeCommand c cw = .error .badOp :=
  if_pos hop

theorem decodeCommand_of_reservedBitSet (hop : opReserved c cw = false)
    (hrsvd : reservedBitSet c cw = true) : decodeCommand c cw = .error .rsvdBits := by
  simp [decodeCommand, hop, hrsvd]

theorem decodeCommand_of_modeIllegal (hop : opReserved c cw = false)
    (hrsvd : reservedBitSet c cw = false) (hmode : modeIllegal cw = true) :
    decodeCommand c cw = .error .badMode := by
  simp [decodeCommand, hop, hrsvd, hmode]

/-- A word that passes each test spells the operation of its OP (R71). -/
theorem exists_decodeCommand_of_tests_pass (hop : opReserved c cw = false)
    (hrsvd : reservedBitSet c cw = false) (hmode : modeIllegal cw = false) :
    ∃ i, decodeCommand c cw = .ok i := by
  rcases opField_cases hop with h | h | h | h <;> simp [decodeCommand, hop, hrsvd, hmode, h]

end

/-- Settles O13: by the answer of CheckCommand, whose tests are the decoder's in the same order. -/
theorem checkCommandNamesDecodeFailure : Obligations.CheckCommandNamesDecodeFailure := by
  intro c cw s hp
  rcases checkCommand_cases c cw s with ⟨hbusy, -⟩ | ⟨-, hop, e⟩ | ⟨-, hop, hrsvd, e⟩ |
    ⟨-, hop, hrsvd, hmode, e⟩ | ⟨-, hop, hrsvd, hmode, -, -, e⟩ | ⟨-, hop, hrsvd, hmode, -, e⟩
  · exact absurd hp hbusy
  · simp [e, decodeCommand_of_opReserved hop]
  · simp [e, decodeCommand_of_reservedBitSet hop hrsvd]
  · simp [e, decodeCommand_of_modeIllegal hop hrsvd hmode]
  all_goals
    obtain ⟨i, h⟩ := exists_decodeCommand_of_tests_pass hop hrsvd hmode
    simp [e, h]

/-! ### The tick that rejects -/

/-- A rejected word changes what the tick changes without it, and the three fields of a rejection
(R200, R203). -/
theorem State.issueTick_of_rejected {s : State} {cw : CommandWord}
    (h : checkCommand Config.hw cw s ≠ .none) (accept : State → State) :
    s.issueTick Config.hw cw accept =
      s.rejected (cw.extractLsb' 32 32) (checkCommand Config.hw cw s) := by
  rcases s.issueTick_cases Config.hw cw accept with ⟨hnone, -⟩ | ⟨-, e⟩
  · exact absurd hnone h
  · exact e

/-- Settles O14. -/
theorem rejectedWriteChangesOnlyReport : Obligations.RejectedWriteChangesOnlyReport := by
  intro s v h
  rw [exec, execWrCmdHi, State.issueTick_of_rejected h, commandWord_hi]

/-- A command word's operation, where CheckCommand turns the word away (R201). -/
theorem exec_of_rejected {s : State} {i : Instr} {cw : CommandWord} {k : Cause}
    (henc : encode i = .command cw) (hcause : checkCommand Config.hw cw s = k) (hk : k ≠ .none) :
    exec i s = .next (s.rejected (cw.extractLsb' 32 32) k) := by
  subst hcause
  rw [exec_of_encode henc, State.issueTick_of_rejected hk]

theorem checkCommand_of_busy {s : State} (hbusy : s.phase ≠ .idle) (c : Config) (cw : CommandWord) :
    checkCommand c cw s = .busy :=
  if_pos hbusy

/-- A SEND or a MONITOR needs a bound block (R201). -/
theorem checkCommand_of_unbound {c : Config} {cw : CommandWord} {i : Instr} {s : State}
    (h : decodeCommand c cw = .ok i) (hp : s.phase = .idle)
    (hcmd : opField cw = 2#4 ∨ opField cw = 3#4) (hbound : s.bound = false) :
    checkCommand c cw s = .unbound := by
  obtain ⟨-, -, -, hspelled⟩ := checkCommandNamesDecodeFailure c cw s hp
  refine (hspelled.2 ⟨i, h⟩).resolve_left fun hnone => ?_
  obtain ⟨-, -, -, -, hneeds⟩ := checkCommand_eq_none hnone
  cases (hneeds hcmd).symm.trans hbound

/-- A MONITOR of mode 3 spells no operation (R79). -/
theorem decodeCommand_encodeMonitor_three {c : Config} (hmon : c.hasMonitor = true) (mi : Bool)
    (timeout : Word) (rate : BitVec 24) :
    decodeCommand c (encodeMonitor 3 mi timeout rate) = .error .badMode :=
  decodeCommand_of_modeIllegal (by simp [opReserved, hmon])
    (by rw [reservedBitSet, opField_encodeMonitor]; exact encodeMonitor_bit7 ..) (by simp [modeIllegal])

/-- Settles O17: the cause of each word, and the tick that rejects with it. -/
theorem commandWordsRejected : Obligations.CommandWordsRejected := by
  refine ⟨fun s hbusy => ?_, fun s p hbusy => ?_, fun s p2 p3 dev c1 c2 c3 => ⟨fun hbusy => ?_,
    fun hp hbound => ?_⟩, fun s m mi t r => ⟨fun hbusy => ?_, fun hp hm => ?_,
    fun hp hm hbound => ?_⟩⟩
  · exact exec_of_rejected (i := .nop) rfl (checkCommand_of_busy hbusy ..) nofun
  · rw [exec_of_rejected rfl (checkCommand_of_busy hbusy ..) nofun, encodeInit_cmdHi]
    rfl
  · rw [exec_of_rejected rfl (checkCommand_of_busy hbusy ..) nofun, encodeSend_cmdHi]
  · have hcause := checkCommand_of_unbound
      (decodeCommand_encodeSend Config.hw p2 p3 dev c1 c2 c3) hp (by simp) hbound
    rw [exec_of_rejected rfl hcause nofun, encodeSend_cmdHi]
  · rw [exec_of_rejected rfl (checkCommand_of_busy hbusy ..) nofun, encodeMonitor_cmdHi]
  · subst hm
    obtain ⟨-, -, hbad, -⟩ := checkCommandNamesDecodeFailure Config.hw (encodeMonitor 3 mi t r) s hp
    have hcause := hbad.2 (decodeCommand_encodeMonitor_three Config.hw_hasMonitor mi t r)
    rw [exec_of_rejected rfl hcause nofun, encodeMonitor_cmdHi]
  · have hcause := checkCommand_of_unbound
      (decodeCommand_encodeMonitor Config.hw_hasMonitor hm mi t r) hp (by simp) hbound
    rw [exec_of_rejected rfl hcause nofun, encodeMonitor_cmdHi]

/-! ### The report of a CMD_HI write -/

/-- A CMD_HI write records what CheckCommand answers (R100, R200). -/
theorem exec_wrCmdHi_report (s : State) (v : Word) :
    ∃ t, exec (.wrCmdHi v) s = .next t ∧
      t.rcause = checkCommand Config.hw (commandWord v s.cmdLo) s ∧
      t.rej = decide (t.rcause ≠ .none) := by
  by_cases h : checkCommand Config.hw (commandWord v s.cmdLo) s = .none
  · obtain ⟨hp, hop, hrsvd, hmode, hbound⟩ := checkCommand_eq_none h
    obtain ⟨i, hdec⟩ := exists_decodeCommand_of_tests_pass hop hrsvd hmode
    rw [cmdHiWriteRunsCommandWord s v i hdec, exec_of_accepted hdec hp hbound]
    exact ⟨_, rfl, by simp [h, State.accepted], by simp [State.accepted]⟩
  · exact ⟨_, rejectedWriteChangesOnlyReport s v h, rfl, (decide_eq_true h).symm⟩

/-! ### The tests on the word as masks -/

/-- The `k` bits of the command word from bit `i` on, as a mask. -/
def fieldMask (i k : Nat) : CommandWord := (BitVec.allOnes k).setWidth 64 <<< i

section
variable (cw : CommandWord)

/-- A field of the command word holds `v` exactly where the masked word is `v`, shifted to the field. -/
theorem and_fieldMask_eq_iff {i k : Nat} (h : i + k ≤ 64) (v : BitVec k) :
    cw &&& fieldMask i k = v.setWidth 64 <<< i ↔ cw.extractLsb' i k = v := by
  constructor
  · intro e
    apply BitVec.eq_of_getLsbD_eq
    intro j hj
    have hbit := congrArg (·.getLsbD (i + j)) e
    have hlt : i + j < 64 := by omega
    have hlt' : j < 64 := by omega
    simpa [fieldMask, hj, hlt, hlt'] using hbit
  · rintro rfl
    apply BitVec.eq_of_getLsbD_eq
    intro j hj
    by_cases hij : i ≤ j
    · obtain ⟨n, rfl⟩ := Nat.exists_eq_add_of_le hij
      simp [fieldMask, hj, Bool.and_comm]
    · simp [fieldMask, Nat.lt_of_not_le hij]

theorem and_fieldMask_eq_zero_iff {i k : Nat} (h : i + k ≤ 64) :
    cw &&& fieldMask i k = 0 ↔ cw.extractLsb' i k = 0 := by
  simpa using and_fieldMask_eq_iff cw h 0

/-- Two fields are 0 exactly where the word is 0 under the two masks together. -/
theorem and_fieldMask_or_eq_zero_iff {i k i' k' : Nat} (h : i + k ≤ 64) (h' : i' + k' ≤ 64) :
    cw &&& (fieldMask i k ||| fieldMask i' k') = 0 ↔
      cw.extractLsb' i k = 0 ∧ cw.extractLsb' i' k' = 0 := by
  rw [BitVec.and_or_distrib_left, BitVec.ofNat_eq_ofNat, BitVec.or_eq_zero_iff]
  exact and_congr (and_fieldMask_eq_zero_iff cw h) (and_fieldMask_eq_zero_iff cw h')

/-- The four values of OP, in the masked word (R71, R77). -/
theorem and_15_eq_iff :
    (cw &&& 0xF#64 = 0 ↔ opField cw = 0#4) ∧ (cw &&& 0xF#64 = 1 ↔ opField cw = 1#4) ∧
      (cw &&& 0xF#64 = 2 ↔ opField cw = 2#4) ∧ (cw &&& 0xF#64 = 3 ↔ opField cw = 3#4) :=
  have h := and_fieldMask_eq_iff cw (i := 0) (k := 4) (by decide)
  ⟨h 0, h 1, h 2, h 3⟩

/-- The reserved bits of the NOP format (R72). -/
theorem and_rsvdNop_eq_zero_iff : cw &&& 0xFFFFFFFFFFFFFFF0#64 = 0 ↔ cw.extractLsb' 4 60 = 0 :=
  and_fieldMask_eq_zero_iff cw (i := 4) (k := 60) (by decide)

/-- The reserved bits of the INIT format, with every PIN byte in range (R73). -/
theorem and_rsvdInit_eq_zero_iff : cw &&& 0xFFFFFFFFFFFF00F0#64 = 0 ↔
    cw.extractLsb' 16 48 = 0 ∧ cw.extractLsb' 4 4 = 0 :=
  and_fieldMask_or_eq_zero_iff cw (i := 16) (k := 48) (i' := 4) (k' := 4) (by decide) (by decide)

/-- The reserved bits of the SEND format (R74). -/
theorem and_rsvdSend_eq_zero_iff : cw &&& 0xFFFF00000000FFC0#64 = 0 ↔
    cw.extractLsb' 48 16 = 0 ∧ cw.extractLsb' 6 10 = 0 :=
  and_fieldMask_or_eq_zero_iff cw (i := 48) (k := 16) (i' := 6) (k' := 10) (by decide) (by decide)

/-- The reserved bit of the MONITOR format (R75). -/
theorem and_rsvdMonitor_eq_zero_iff : cw &&& 0x80#64 = 0 ↔ cw.getLsbD 7 = false := by
  have h : (0x80#64 : CommandWord) = BitVec.twoPow 64 7 := by decide
  rw [h, BitVec.and_twoPow]
  cases cw.getLsbD 7 <;> decide

/-- MODE as the masked word (R77). -/
theorem and_mode_eq_iff : cw &&& 0x30#64 = 0x30#64 ↔ modeField cw = 3#2 :=
  and_fieldMask_eq_iff cw (i := 4) (k := 2) (by decide) 3#2

theorem opReserved_hw_iff : opReserved Config.hw cw = true ↔ 4#64 ≤ cw &&& 0xF#64 := by
  have h := (opField cw).isLt
  rw [and_15_eq_opField, BitVec.le_def, BitVec.toNat_setWidth]
  simp only [opReserved, Config.hw_hasMonitor, Bool.not_true, Bool.and_false, Bool.or_false,
    decide_eq_true_iff, BitVec.toNat_ofNat]
  omega

/-- A reserved bit of the word's format is set (R76). -/
theorem reservedBitSet_hw_iff : reservedBitSet Config.hw cw = true ↔
    (cw &&& 0xF#64 = 0 ∧ cw &&& 0xFFFFFFFFFFFFFFF0#64 ≠ 0) ∨
      (cw &&& 0xF#64 = 1 ∧ cw &&& 0xFFFFFFFFFFFF00F0#64 ≠ 0) ∨
      (cw &&& 0xF#64 = 2 ∧ cw &&& 0xFFFF00000000FFC0#64 ≠ 0) ∨
      (cw &&& 0xF#64 = 3 ∧ cw &&& 0x80#64 ≠ 0) := by
  have hpin : pinField cw >>> Config.hw.pinw = 0 := (pin_in_range_iff _ _).2 (pinField cw).isLt
  obtain ⟨h0, h1, h2, h3⟩ := and_15_eq_iff cw
  simp only [h0, h1, h2, h3, ne_eq, and_rsvdNop_eq_zero_iff, and_rsvdInit_eq_zero_iff,
    and_rsvdSend_eq_zero_iff, and_rsvdMonitor_eq_zero_iff, reservedBitSet, hpin]
  split_ifs with e0 e1 e2 e3
  · simp [e0]
  · simp [e1, imp_iff_not_or]
  · simp [e2, imp_iff_not_or]
  · simp [e3]
  · simp [e0, e1, e2, e3]

/-- A MONITOR of mode 3 (R79). -/
theorem modeIllegal_iff :
    modeIllegal cw = true ↔ cw &&& 0xF#64 = 3 ∧ cw &&& 0x30#64 = 0x30#64 := by
  obtain ⟨-, -, -, h3⟩ := and_15_eq_iff cw
  rw [h3, and_mode_eq_iff, modeIllegal, Bool.and_eq_true, decide_eq_true_iff, decide_eq_true_iff]

end

/-- Settles O15: the tests of CheckCommand, each as its mask. -/
theorem rejectionPriority : Obligations.RejectionPriority := by
  intro s v
  obtain ⟨t, hexec, hcause, hrej⟩ := exec_wrCmdHi_report s v
  refine ⟨t, hexec, hcause.trans ?_, hrej⟩
  obtain ⟨-, -, h2, h3⟩ := and_15_eq_iff (commandWord v s.cmdLo)
  simp only [checkCommand, opReserved_hw_iff, reservedBitSet_hw_iff, modeIllegal_iff, ← h2, ← h3]

/-! ### How long a report stays -/

/-- The one access that writes the report is a CMD_HI write (R47). -/
theorem State.TickResult.report_kept {s w : State} (hr : s.TickResult w)
    (hno : ∀ v, s.fetch ≠ .run (.wrCmdHi v)) : w.rej = s.rej ∧ w.rcause = s.rcause := by
  cases hr with
  | passed _ _ _ _ _ hreport =>
    rcases hreport with hkeep | ⟨-, -, v, hfetch⟩
    · exact hkeep
    · exact absurd hfetch (hno v)
  | nop v hfetch | init v _ hfetch | send v _ _ _ _ _ _ hfetch | monitor v _ _ _ _ hfetch =>
    exact absurd hfetch (hno v)

/-- Settles O16. -/
theorem reportStaysUntilNextIssue : Obligations.ReportStaysUntilNextIssue := by
  intro s t hn hno hstep
  obtain ⟨w, rd, hr, rfl⟩ := step_cases_of_notReset hn hstep
  exact hr.report_kept hno

end Sys2Proof.Machine
end

section
/-!
PROOF. Several instances on one platform (spec/60_exceptions.md R213): their common tick, their register
windows, and the access that reaches one of them.
-/

namespace Sys2Proof.Machine

/-- A tick takes every block to where it goes alone, by induction on the list of them. -/
theorem stepInstances_getElem? (p : List Instance) :
    ∃ q, stepInstances p = .next q ∧ q.length = p.length ∧
      ∀ (k : Nat) (i : Instance), p[k]? = some i →
        ∃ t, step i.block = .next t ∧ q[k]? = some { i with block := t } := by
  induction p with
  | nil => exact ⟨[], rfl, rfl, by simp⟩
  | cons i rest ih =>
    obtain ⟨q, hrest, hlength, hq⟩ := ih
    obtain ⟨t, hstep, -⟩ := everyStepAnswersNext i.block
    refine ⟨_, stepInstances_cons i rest q t hstep hrest, congrArg (· + 1) hlength, fun k j hk => ?_⟩
    cases k with
    | zero =>
      cases hk
      exact ⟨t, hstep, rfl⟩
    | succ k => exact hq k j hk

/-- The window `w` holds the 32 addresses from 32 · `w` on, each at its own host address (R51). -/
theorem platformAddress_eq_some_iff (w addr : Nat) (h : BitVec 5) :
    platformAddress w addr = some h ↔ addr = 32 * w + h.toNat := by
  have hlt := h.isLt
  rw [platformAddress, slinkBase, Option.ite_none_right_eq_some, Option.some_inj, ← BitVec.toNat_inj,
    BitVec.toNat_ofNat]
  omega

/-- No address lies in two windows. -/
theorem platformAddress_eq_none_of_ne {w w' addr : Nat} {h : BitVec 5} (hne : w ≠ w')
    (hw : platformAddress w addr = some h) : platformAddress w' addr = none := by
  rw [Option.eq_none_iff_forall_ne_some]
  intro h' hw'
  rw [platformAddress_eq_some_iff] at hw hw'
  have hlt := h.isLt
  have hlt' := h'.isLt
  omega

/-- Settles O60: each block of the platform takes an access by its own window. -/
theorem instancesIndependent : Obligations.InstancesIndependent := by
  refine ⟨stepInstances_getElem?, platformAddress_eq_some_iff,
    fun _ _ _ _ => platformAddress_eq_none_of_ne, fun p k addr i wr v hk =>
      ⟨fun h hw => ?_, fun hw => ?_⟩⟩
  · simp [routeAccess, hk, hw]
  · simp [routeAccess, hk, hw]

end Sys2Proof.Machine
end

section
/-!
PROOF. Reset ticks, and an INIT that follows an INIT (spec/70_reset_and_hazards.md R230, R233, R235).
-/

namespace Sys2Proof.Machine

/-! ### Reset -/

theorem State.fetch_of_rst {s : State} {a : Option BusAccess} {rest : List HostTick}
    (h : s.hostIn = ⟨true, a⟩ :: rest) : s.fetch = .reset a := by
  simp [State.fetch, h, fetchTick]

theorem step_of_reset {s : State} {a : Option BusAccess} (h : s.fetch = .reset a) :
    step s = .next (s.resetTick a) := by
  rw [step_eq, h]

theorem resetReadData_of_read {b : BusAccess} (h : b.hwrite = false) :
    resetReadData (some b) = some 0 := by
  simp [resetReadData, h]

/-- Settles O3: the reset tick, and what the port carries in it. -/
theorem resetTickForcesReset : Obligations.ResetTickForcesReset := by
  intro s a rest h
  refine ⟨resetReadData a, ?_, ?_⟩
  · have hrest : s.hostIn.tail = rest := congrArg List.tail h
    rw [step_of_reset (State.fetch_of_rst h), ← hrest]
    rfl
  · rintro b rfl hread
    exact resetReadData_of_read hread

/-! ### INIT after INIT -/

/-- Settles O20: an INIT leaves the block idle, so the rule of INIT holds of the next one too. What it
writes beside the pin stands already. -/
theorem initIdempotent : Obligations.InitIdempotent := by
  intro s p q hp
  have hidle : ({ s.accepted 0 with pin := p, bound := true, dir := false } : State).phase = .idle := hp
  exact ⟨_, _, initBindsPin s p hp, initBindsPin _ q hidle, rfl, rfl, rfl, rfl, rfl⟩

end Sys2Proof.Machine
end
